-- ==== Sys2Proof/Word.lean ====
section
/-! DEFINITION. The value types of the block: bytes, 16-bit values, byte strings (00_scope.md section 5).
There are no signed values anywhere (40_crc.md R92). -/

namespace Sys2Proof

/-- `u8` of 00_scope.md section 5. -/
abbrev Byte := BitVec 8

/-- `u16` of 00_scope.md section 5: the width of `CRC` and `EINFO`. -/
abbrev Half := BitVec 16

/-- A byte string: `[]` is empty, `++` is the spec's `||`, `length` is `len`. Messages, frames and payloads. -/
abbrev Bytes := List Byte

end Sys2Proof
end

