-- ==== Sys2Proof/Syntax.lean ====
section
/-! DEFINITION. The instructions: one constructor for each row of spec/opcode_table.json, 17 operations
(30_encoding.md R62) and 3 PCB classification rows (R54 to R57). -/

namespace Sys2Proof

/-- The rows of the opcode table. -/
inductive Instr where
  /-- `NOP` (44_system.md R160). -/
  | nop
  /-- `RDREG imm8` (44_system.md R161). -/
  | rdreg (imm8 : Byte)
  /-- `SRESET` (44_system.md R162). -/
  | sreset
  /-- `CRC.SEED imm16` (40_crc.md R86). -/
  | crcSeed (imm16 : Half)
  /-- `CRC.UPD imm8` (40_crc.md R87). -/
  | crcUpd (imm8 : Byte)
  /-- `CRC.BLK data` (40_crc.md R88). -/
  | crcBlk (data : Bytes)
  /-- `CRC.READ` (40_crc.md R89). -/
  | crcRead
  /-- `CRC.FCS` (40_crc.md R90). -/
  | crcFcs
  /-- `CRC.CHK` (40_crc.md R91). -/
  | crcChk
  /-- `FRM.ENC pcb, data` (41_frame_codec.md R101). -/
  | frmEnc (pcb : Byte) (data : Bytes)
  /-- `FRM.HDR b0, b1, b2` (41_frame_codec.md R103). -/
  | frmHdr (b0 b1 b2 : Byte)
  /-- `FRM.VAL data` (41_frame_codec.md R105). -/
  | frmVal (data : Bytes)
  /-- `SEQ.RST` (42_sequence.md R121). -/
  | seqRst
  /-- `SEQ.TGL` (42_sequence.md R122). -/
  | seqTgl
  /-- `SEQ.RD` (42_sequence.md R124). -/
  | seqRd
  /-- `SEQ.PCB imm8` (42_sequence.md R123). -/
  | seqPcb (imm8 : Byte)
  /-- `XCHG pcb, data` (43_transaction.md R130, R142). -/
  | xchg (pcb : Byte) (data : Bytes)
  /-- The table's row `PCB.IBLOCK`: a request PCB with bit 7 clear, as step 8 of `XCHG` classifies it
  (30_encoding.md R54, R55). Not a command: no command message decodes to it (log 3). -/
  | pcbIblock (pcb : Byte)
  /-- The table's row `PCB.RESET`: the request PCB 0xCF, as step 1 of `XCHG` tests it (30_encoding.md R56). Not a
  command (log 3). -/
  | pcbReset
  /-- The table's row `PCB.CHAIN`: a response PCB with bit 7 clear and bit 5 set, as the header decode of `XCHG` tests
  it (30_encoding.md R57). Not a command (log 3). -/
  | pcbChain (pcb : Byte)
  deriving DecidableEq, Repr

/-- The rows that are operations of the host command port (30_encoding.md R62); the other three classify PCBs. -/
def Instr.isCommand : Instr → Bool
  | .nop | .rdreg _ | .sreset => true
  | .crcSeed _ | .crcUpd _ | .crcBlk _ | .crcRead | .crcFcs | .crcChk => true
  | .frmEnc _ _ | .frmHdr _ _ _ | .frmVal _ => true
  | .seqRst | .seqTgl | .seqRd | .seqPcb _ => true
  | .xchg _ _ => true
  | .pcbIblock _ | .pcbReset | .pcbChain _ => false

end Sys2Proof
end

