-- ==== Sys2Proof/Machine/Operands.lean ====
section
/-! DEFINITION. Byte order of 16-bit operands and results (20_memory.md R41) and the operand formats of command
messages (30_encoding.md R61, R63). -/

namespace Sys2Proof.Machine

/-- `lo8(v)`, bits 7..0. -/
def lo8 (v : Half) : Byte := v.extractLsb' 0 8

/-- `hi8(v)`, bits 15..8. -/
def hi8 (v : Half) : Byte := v.extractLsb' 8 8

/-- A 16-bit value as it is sent: low byte first (20_memory.md R41). -/
def le16 (v : Half) : Bytes := [lo8 v, hi8 v]

/-- The 16-bit value whose low byte arrived first (20_memory.md R41). -/
def fromLe16 (lo hi : Byte) : Half := hi ++ lo

/-- The six formats of 30_encoding.md R61. -/
inductive Format where
  /-- `op` -/
  | N
  /-- `op, imm8` -/
  | B
  /-- `op, lo8(imm16), hi8(imm16)` -/
  | H
  /-- `op, b0, b1, b2` -/
  | T
  /-- `op, lo8(n), hi8(n), data` -/
  | V
  /-- `op, pcb, lo8(n), hi8(n), data` -/
  | X
  deriving DecidableEq, Repr

/-- The total length of a message of the format, from its first four bytes (30_encoding.md R63: "a stream-oriented
host can equally find the end of a command from byte 0 (fixed formats) or from the length field"). -/
def Format.messageLength (f : Format) (b1 b2 b3 : Byte) : Nat :=
  match f with
  | .N => 1
  | .B => 2
  | .H => 3
  | .T => 4
  | .V => 3 + (fromLe16 b1 b2).toNat
  | .X => 4 + (fromLe16 b2 b3).toNat

/-- The operand bytes (what follows byte 0), read as one of the formats; the message fits when this is not `none`
(30_encoding.md R63). -/
inductive Operands where
  | none
  | imm8 (b : Byte)
  | imm16 (v : Half)
  | header (b0 b1 b2 : Byte)
  | data (d : Bytes)
  | pcbData (pcb : Byte) (d : Bytes)
  deriving DecidableEq, Repr

/-- Read the bytes after the opcode by the format; `none` when the message's length does not fit (30_encoding.md R61,
R63, R64(c)). -/
def Format.parse (f : Format) (ops : Bytes) : Option Operands :=
  match f, ops with
  | .N, [] => some .none
  | .B, [b] => some (.imm8 b)
  | .H, [lo, hi] => some (.imm16 (fromLe16 lo hi))
  | .T, [b0, b1, b2] => some (.header b0 b1 b2)
  | .V, lo :: hi :: d => if d.length = (fromLe16 lo hi).toNat then some (.data d) else Option.none
  | .X, pcb :: lo :: hi :: d =>
    if d.length = (fromLe16 lo hi).toNat then some (.pcbData pcb d) else Option.none
  | _, _ => Option.none

/-- The bytes after the opcode, as a message carries the operands (30_encoding.md R61). -/
def Operands.bytes : Operands → Bytes
  | .none => []
  | .imm8 b => [b]
  | .imm16 v => le16 v
  | .header b0 b1 b2 => [b0, b1, b2]
  | .data d => le16 (BitVec.ofNat 16 d.length) ++ d
  | .pcbData pcb d => pcb :: le16 (BitVec.ofNat 16 d.length) ++ d

end Sys2Proof.Machine
end

