-- ==== Sys2Proof/Config.lean ====
section
/-! DEFINITION. What an instance fixes: the constants of 00_scope.md R3, the configuration values of R4, R5, R7,
the types of the transport port (20_memory.md R33, R38), and the free values (opaque constants without a body). -/

namespace Sys2Proof

/-! ### Constants (00_scope.md R3) -/

/-- `POLY`. -/
def POLY : Half := 0x8408#16
/-- `SEED0`: the seed of every frame checksum. -/
def SEED0 : Half := 0xFFFF#16
/-- `RESIDUE`: what a valid frame leaves in the accumulator. -/
def RESIDUE : Half := 0xF0B8#16
/-- `IFSC`: exclusive bound on the payload length of an encoded frame (90_conflicts.md C4). -/
def IFSC : Nat := 254
/-- `PCB_RESET`: the reset/ATR control byte. -/
def PCB_RESET : Byte := 0xCF#8
/-- `HDR_LEN`: bytes of a response header. -/
def HDR_LEN : Nat := 3
/-- `FCS_LEN`: bytes of a frame checksum. -/
def FCS_LEN : Nat := 2

/-! ### The transport port's data (20_memory.md R33, R38) -/

/-- An adapter error `e : TErr` (20_memory.md R33): opaque to the block, which only reports it. It is held as the
bytes that report it, `terr_bytes(e)`; `terr_bytes` is injective and at most 65535 bytes long (92_eei_decisions.md
D24), so nothing is lost (DESIGN CHOICE, safe, log 7). -/
structure TErr where
  report : Bytes
  short : report.length ≤ 65535
  deriving DecidableEq, Repr

/-- `terr_bytes(e)` of 00_scope.md R7. -/
def terrBytes (e : TErr) : Bytes := e.report

/-- One answer of the port (20_memory.md R33): `ok(bytes)` (`ok []` for a write) or `err(e)`. -/
inductive PortAnswer where
  | ok (bytes : Bytes)
  | err (e : TErr)
  deriving DecidableEq, Repr, Inhabited

/-- What a port call asks: `PortWrite(v)` or `PortRead(n)` (20_memory.md R33). -/
inductive PortOp where
  | write (v : Bytes)
  | read (n : Nat)
  deriving DecidableEq, Repr

/-- A port call with the arguments it passes: `write(BUSID, DEVADDR, none, v)` or `read(BUSID, DEVADDR, none, n)`
(20_memory.md R33, R34). -/
structure PortCall where
  bus : Int
  address : Int
  register : Option Int
  op : PortOp
  deriving DecidableEq, Repr

/-- One event of the port's history: a call, retried attempts included, and its answer (20_memory.md R38). -/
structure PortEvent where
  call : PortCall
  answer : PortAnswer
  deriving DecidableEq, Repr

/-- An abstract record of the diagnostic sink (60_exceptions.md R190). -/
inductive DiagRecord where
  | portW (devAddr : Int) (register : Option Int) (bytes : Bytes) (answer : PortAnswer)
  | portR (devAddr : Int) (register : Option Int) (n : Nat) (answer : PortAnswer)
  | chainSeen (pcb : Byte)
  deriving DecidableEq, Repr

/-! ### Configuration (00_scope.md R4, R5, R7) -/

/-- An attempt budget: `MAXATT >= 1` is carried by the type (92_eei_decisions.md D12: a configuration with 0 is
refused). -/
structure AttemptBudget where
  n : Nat
  pos : 1 ≤ n
  deriving DecidableEq, Repr

/-- A set of PCB values, one bit for each of the 256: any function from PCB to true or false, as plain data. -/
structure PcbSet where
  bits : BitVec 256
  deriving DecidableEq, Repr

/-- Whether a PCB value is in the set. -/
def PcbSet.has (c : PcbSet) (pcb : Byte) : Bool := c.bits.getLsbD pcb.toNat

/-- The configuration of one instance: chosen once, written by no operation (10_state.md R18). -/
structure Config where
  /-- `BUSID` (R4). -/
  busId : Int
  /-- `DEVADDR` (R4). -/
  devAddr : Int
  /-- `MAXATT` (R4). -/
  maxAtt : AttemptBudget
  /-- `RDELAY` (R4): no rule depends on its value (70_reset_and_hazards.md R212). -/
  rdelay : Nat
  /-- `NAD` (R5). -/
  nad : Byte
  /-- `is_iblock` (R7). -/
  iblock : PcbSet
  /-- `is_chain` (R7). -/
  chain : PcbSet
  /-- Whether a diagnostic sink is attached (10_state.md R18). -/
  sink : Bool
  deriving DecidableEq, Repr

/-- The default of `is_iblock` (30_encoding.md R55): the values 0x00 to 0x7F, bit 7 clear. -/
def PcbSet.defaultIblock : PcbSet := ⟨0xFFFFFFFFFFFFFFFFFFFFFFFFFFFFFFFF#256⟩

/-- The default of `is_chain` (30_encoding.md R57): the values 0x20 to 0x3F and 0x60 to 0x7F. -/
def PcbSet.defaultChain : PcbSet := ⟨0xFFFFFFFF00000000FFFFFFFF00000000#256⟩

/-- The configuration of the instance that `State.reset` describes: the spec's defaults where it gives one (R5, R7);
PRESUMED for `NAD`, DESIGN CHOICE for the values without a default (log 8, unsafe). No statement rests on it but
those about the reset state. -/
def Config.default : Config where
  busId := 0
  devAddr := 0
  maxAtt := ⟨3, by decide⟩
  rdelay := 0
  nad := 0x5A#8
  iblock := PcbSet.defaultIblock
  chain := PcbSet.defaultChain
  sink := false

/-! ### Free values -/

/-- The content of `CRC` after a reset or `SRESET`: unspecified, a draw at each reset (10_state.md R21,
93_implementation_defined.md U1). The argument is the number of the draw. (DESIGN CHOICE, safe, log 4.) -/
opaque Config.resetCrc : Nat → Half

/-- The port's answer where the state lists none: an oracle draw for each call (20_memory.md R37,
93_implementation_defined.md U7). The argument is the number of the draw. (DESIGN CHOICE, safe, log 6.) -/
opaque Config.portAnswer : Nat → PortAnswer

end Sys2Proof
end

