-- ==== Sys2Proof/Machine/State.lean ====
section
/-! DEFINITION. The state of the block: the registers of 10_state.md R10, its hidden state (R15 to R17), the event
history of the port (20_memory.md R38), the queues at its boundary, and its unchanging configuration; the reasons a step
could stop; the state after reset (10_state.md R20 to R22, 70_reset_and_hazards.md R201). -/

namespace Sys2Proof.Machine

/-- Why the machine stops. No reason exists: "There is no crash/abort path in the core; all failure is returned, not
asserted" (30_encoding.md R65). Nobody raises it. -/
inductive Fault where
  deriving DecidableEq, Repr

/-- Why the model gives no meaning. -/
inductive Refusal where
  /-- The instruction has no meaning yet. Raised by an arm of `exec` that is rejected by name; no arm is. Safe. -/
  | notModelled (mnemonic : String)
  deriving DecidableEq, Repr

/-- The values of the hidden register `PHASE` (10_state.md R15). -/
inductive Phase where
  /-- no operation in progress: the only value in which the block accepts a command -/
  | idle
  /-- the frame is being written to the port -/
  | write
  /-- the 3 header bytes are being read -/
  | rdhdr
  /-- the remainder is being read -/
  | rdbody
  deriving DecidableEq, Repr

/-- The machine. INVENTORY.md lists every field with its rule and its reset value. -/
structure State where
  /-- The instance's configuration (10_state.md R18): no step changes it (log 8). -/
  cfg : Config
  /-- `CRC`, register 0 (10_state.md R11). -/
  crc : Half
  /-- `SEQ`, register 1 (10_state.md R12). -/
  seq : BitVec 1
  /-- `ERR`, register 2 (10_state.md R13). -/
  err : Byte
  /-- `EINFO`, register 3 (10_state.md R14). -/
  einfo : Half
  /-- `PHASE`, hidden (10_state.md R15). -/
  phase : Phase
  /-- `ATT`, hidden: attempts made in the current phase (10_state.md R16). -/
  att : Nat
  /-- `TXBUF`, hidden: the frame built last (10_state.md R17). -/
  txbuf : Bytes
  /-- `RXHDR`, hidden: the response header read last (10_state.md R17). -/
  rxhdr : Bytes
  /-- `RXBUF`, hidden: the response remainder read last (10_state.md R17). -/
  rxbuf : Bytes
  /-- The event history of the port, oldest first (20_memory.md R38). -/
  events : List PortEvent
  /-- What the diagnostic sink has received, oldest first (60_exceptions.md R190). -/
  diag : List DiagRecord
  /-- The command messages the host will issue, in order (20_memory.md R31, R47). -/
  inbox : List Bytes
  /-- The response messages delivered to the host, oldest first (20_memory.md R31, 30_encoding.md R65). -/
  outbox : List Bytes
  /-- The port's coming answers, in order; when they are used up, `Config.portAnswer` gives the rest (20_memory.md
  R37). -/
  answers : List PortAnswer
  /-- The model's own: how many free values have been drawn. -/
  draws : Nat
  /-- The model's own: how many waits of `RDELAY` have been made (43_transaction.md R132). -/
  waits : Nat
  deriving DecidableEq, Repr

/-- The machine right after reset (10_state.md R20 to R22). `CRC` is unspecified: a free value (log 4). -/
def State.reset : State where
  cfg := Config.default
  crc := Config.resetCrc 0
  seq := 0#1
  err := 0#8
  einfo := 0#16
  phase := .idle
  att := 0
  txbuf := []
  rxhdr := []
  rxbuf := []
  events := []
  diag := []
  inbox := []
  outbox := []
  answers := []
  draws := 1
  waits := 0

end Sys2Proof.Machine
end

