-- ==== Sys2Proof/Machine/Flags.lean ====
section
/-! DEFINITION. The status values: what each failure writes to `ERR` and `EINFO` and returns to the host
(60_exceptions.md R170, 30_encoding.md R66). The block has no condition codes or flags (10_state.md R19). -/

namespace Sys2Proof.Machine

/-- The failures (60_exceptions.md R170), with what each reports. -/
inductive Failure where
  /-- R171: `e` is the adapter's last error -/
  | transportError (e : TErr)
  /-- R172 -/
  | frameTooLong
  /-- R173: the two received checksum bytes, in the order received -/
  | crcError (first second : Byte)
  /-- R174 -/
  | malformedResponse
  /-- R175 -/
  | illegalCommand
  deriving DecidableEq, Repr

/-- The status code (60_exceptions.md R170); code 0 is `OK`. -/
def failureCode : Failure → Byte
  | .transportError _ => 1#8
  | .frameTooLong => 2#8
  | .crcError _ _ => 3#8
  | .malformedResponse => 4#8
  | .illegalCommand => 5#8

/-- The value of `EINFO`: the received checksum bytes of a `CRCError`, the first in bits 7..0; else 0 (10_state.md
R14). -/
def failureInfo : Failure → Half
  | .crcError first second => fromLe16 first second
  | _ => 0#16

/-- The data field of the error response (30_encoding.md R66). -/
def failureData : Failure → Bytes
  | .transportError e => terrBytes e
  | .crcError first second => [first, second]
  | _ => []

end Sys2Proof.Machine
end

