-- ==== Sys2Proof/Machine/Ops.lean ====
section
/-! DEFINITION. The shared operations: the CRC functions (40_crc.md R80 to R83), the frame codec's functions
(41_frame_codec.md R100 to R104), the sequence bit's events (42_sequence.md R120), register reads, the response message,
completing an operation and raising a failure (60_exceptions.md R176), reset (70_reset_and_hazards.md R201), the
diagnostic sink and the port call with its bounded retry (43_transaction.md R132). -/

namespace Sys2Proof.Machine

/-! ### CRC functions -/

/-- One iteration of the inner loop of `crc_byte` (40_crc.md R80). -/
def crcShift (c : Half) : Half := if c.getLsbD 0 then (c >>> 1) ^^^ POLY else c >>> 1

/-- `k` iterations of the inner loop. -/
def crcShifts : Nat → Half → Half
  | 0, c => c
  | k + 1, c => crcShifts k (crcShift c)

/-- `crc_byte(c, b)` (40_crc.md R80). -/
def crcByte (c : Half) (b : Byte) : Half := crcShifts 8 (c ^^^ b.zeroExtend 16)

/-- `crc16(data, seed)` (40_crc.md R81). -/
def crc16 (data : Bytes) (seed : Half) : Half := data.foldl crcByte seed

/-- The two bytes to append, for an accumulator `c`: complemented, low byte first (40_crc.md R83, R90). -/
def fcsOf (c : Half) : Bytes := le16 (~~~c)

/-- `fcs(data)` (40_crc.md R83). -/
def fcs (data : Bytes) : Bytes := fcsOf (crc16 data SEED0)

/-! ### Frame codec functions -/

/-- What a frame's checksum covers: `nad, pcb, len, payload` (30_encoding.md R50, R52). -/
def frameHead (nad pcb : Byte) (payload : Bytes) : Bytes :=
  [nad, pcb, BitVec.ofNat 8 payload.length] ++ payload

/-- `encode(pcb, payload)`; `none` is `FrameTooLong` (41_frame_codec.md R100). -/
def encodeFrame (nad pcb : Byte) (payload : Bytes) : Option Bytes :=
  if IFSC ≤ payload.length then none
  else some (frameHead nad pcb payload ++ fcs (frameHead nad pcb payload))

/-- The `pcb` that `decodeHeader` extracts (41_frame_codec.md R102). -/
def headerPcb (h : Bytes) : Byte := h.getD 1 0#8

/-- The `declaredLen` that `decodeHeader` extracts, 0 to 255 (41_frame_codec.md R102). -/
def headerLen (h : Bytes) : Nat := (h.getD 2 0#8).toNat

/-- `validate(h, b)` (41_frame_codec.md R104): seeded with the response's own header (90_conflicts.md C1). -/
def validate (h b : Bytes) : Half := crc16 b (crc16 h SEED0)

/-! ### Register and buffer writes -/

/-- `CRC <- c`. -/
def setCrc (c : Half) (s : State) : State := { s with crc := c }

/-- A frame has been built: `CRC` keeps the accumulator before the complement, the frame stands in `TXBUF`
(41_frame_codec.md R101, 43_transaction.md R134). -/
def holdFrame (c : Half) (f : Bytes) (s : State) : State := { s with crc := c, txbuf := f }

/-- A response header has been read into `RXHDR` (10_state.md R17). -/
def holdHeader (h : Bytes) (s : State) : State := { s with rxhdr := h }

/-- A response remainder has been read into `RXBUF` (10_state.md R17). -/
def holdBody (b : Bytes) (s : State) : State := { s with rxbuf := b }

/-- `PHASE <- p` (10_state.md R15). -/
def setPhase (p : Phase) (s : State) : State := { s with phase := p }

/-- `ATT <- 0` (10_state.md R16). -/
def clearAtt (s : State) : State := { s with att := 0 }

/-- The host's command message has been taken off the queue. -/
def dropCommand (rest : List Bytes) (s : State) : State := { s with inbox := rest }

/-! ### The sequence bit -/

/-- The flip event (42_sequence.md R120). -/
def seqFlip (s : State) : State := { s with seq := s.seq ^^^ 1#1 }

/-- The force event (42_sequence.md R120). -/
def seqForce (s : State) : State := { s with seq := 0#1 }

/-- Step 1 of the exchange: the reset/ATR value forces the bit (43_transaction.md R133, 30_encoding.md R56). -/
def seqOnRequest (pcb : Byte) (s : State) : State := if pcb = PCB_RESET then seqForce s else s

/-- Step 8 of the exchange: an information-block request flips the bit (43_transaction.md R141, 30_encoding.md R55,
90_conflicts.md C6). -/
def seqOnSuccess (pcb : Byte) (s : State) : State := bif s.cfg.iblock.has pcb then seqFlip s else s

/-- The information-block PCB of a sequence bit and a chaining flag (30_encoding.md R54). -/
def iblockPcb (ns m : BitVec 1) : Byte := (ns.zeroExtend 8 <<< 6) ||| (m.zeroExtend 8 <<< 5)

/-! ### Registers -/

/-- `x[i]` zero-extended to 16 bits, for the four registers (10_state.md R10, 44_system.md R161). -/
def readReg (s : State) (i : Byte) : Option Half :=
  match i.toNat with
  | 0 => some s.crc
  | 1 => some (s.seq.zeroExtend 16)
  | 2 => some (s.err.zeroExtend 16)
  | 3 => some s.einfo
  | _ => none

/-! ### Completing an operation -/

/-- The response message `status, lo8(n), hi8(n), data` (30_encoding.md R65). -/
def responseMessage (status : Byte) (data : Bytes) : Bytes :=
  status :: le16 (BitVec.ofNat 16 data.length) ++ data

/-- Deliver one response to the host (20_memory.md R31). -/
def respond (status : Byte) (data : Bytes) (s : State) : State :=
  { s with outbox := s.outbox ++ [responseMessage status data] }

/-- `return data`: `ERR <- 0`, `EINFO <- 0`, the `OK` response (43_transaction.md R142, 10_state.md R13, R14). -/
def complete (data : Bytes) (s : State) : State := respond 0#8 data { s with err := 0#8, einfo := 0#16 }

/-- `raise f`, taking an exception (60_exceptions.md R176): `ERR` and `EINFO` are written, `PHASE <- IDLE`, the error
response is delivered. Nothing is saved, nothing is masked, no control is transferred. There is no return from it
(R179): the host already has control, and the next command finds the block ready. -/
def raise (f : Failure) (s : State) : State :=
  respond (failureCode f) (failureData f)
    { s with err := failureCode f, einfo := failureInfo f, phase := .idle }

/-- The effect of reset on the block (70_reset_and_hazards.md R201): every piece of its state takes the value of
10_state.md R20 to R22. `CRC` is unspecified: the next free value (log 4). The event history starts empty (R22, log
12). -/
def resetBlock (s : State) : State :=
  { s with
    crc := Config.resetCrc s.draws
    draws := s.draws + 1
    seq := 0#1
    err := 0#8
    einfo := 0#16
    phase := .idle
    att := 0
    txbuf := []
    rxhdr := []
    rxbuf := []
    events := [] }

/-! ### Diagnostic sink -/

/-- `diag(record)` (60_exceptions.md R190): nothing at all without a sink. -/
def diagnose (r : DiagRecord) (s : State) : State := bif s.cfg.sink then { s with diag := s.diag ++ [r] } else s

/-- The chaining diagnostic of a response PCB (43_transaction.md R137, 30_encoding.md R57). -/
def chainDiagnostic (rpcb : Byte) (s : State) : State :=
  bif s.cfg.chain.has rpcb then diagnose (.chainSeen rpcb) s else s

/-! ### The transport port -/

/-- The next answer of the port: the next one listed, else a draw (20_memory.md R37, log 6). -/
def takeAnswer (s : State) : PortAnswer × State :=
  match s.answers with
  | a :: rest => (a, { s with answers := rest })
  | [] => (Config.portAnswer s.draws, { s with draws := s.draws + 1 })

/-- A write that succeeds answers `ok()`, without bytes (20_memory.md R33). -/
def answerTo (op : PortOp) (a : PortAnswer) : PortAnswer :=
  match op, a with
  | .write _, .ok _ => .ok []
  | .write _, .err e => .err e
  | .read _, a => a

/-- The call with the configuration's bus and address, and `register = none` (20_memory.md R33, R34). -/
def portCallOf (cfg : Config) (op : PortOp) : PortCall :=
  { bus := cfg.busId, address := cfg.devAddr, register := none, op := op }

/-- The diagnostic record of a port call (60_exceptions.md R190). -/
def portRecord (cfg : Config) (op : PortOp) (a : PortAnswer) : DiagRecord :=
  match op with
  | .write v => .portW cfg.devAddr none v a
  | .read n => .portR cfg.devAddr none n a

/-- One attempt has been made and answered: `ATT <- ATT + 1`, one event (43_transaction.md R132, 20_memory.md R38). -/
def logCall (op : PortOp) (a : PortAnswer) (s : State) : State :=
  { s with att := s.att + 1, events := s.events ++ [⟨portCallOf s.cfg op, a⟩] }

/-- One attempt of a port call: the call and its answer, its event, its record (43_transaction.md R132, 20_memory.md
R38, 60_exceptions.md R190). -/
def callPort (op : PortOp) (s : State) : PortAnswer × State :=
  match takeAnswer s with
  | (a, s) => (answerTo op a, diagnose (portRecord s.cfg op (answerTo op a)) (logCall op (answerTo op a) s))

/-- The wait of `RDELAY` between two attempts: no register changes, the model counts it (43_transaction.md R132, log
15). -/
def waitDelay (s : State) : State := { s with waits := s.waits + 1 }

/-- The loop of `retry(call)` with at most `k + 1` attempts left (43_transaction.md R132). -/
def retryLoop (op : PortOp) : Nat → State → PortAnswer × State
  | 0, s => callPort op s
  | k + 1, s =>
    match callPort op s with
    | (.ok v, s) => (.ok v, s)
    | (.err _, s) => retryLoop op k (waitDelay s)

/-- `retry(call)`: up to `MAXATT` attempts from `ATT = 0`; the first `ok`, else the last error (43_transaction.md
R132). -/
def retry (op : PortOp) (s : State) : PortAnswer × State :=
  retryLoop op (s.cfg.maxAtt.n - 1) (clearAtt s)

end Sys2Proof.Machine
end

