-- ==== Sys2Proof/Machine/CrcEngine.lean ====
section
/-! DEFINITION. The CRC engine's operations (40_crc.md R86 to R91) and the table form of its step (R82(e)). -/

namespace Sys2Proof.Machine

/-- `CRC.SEED imm16` (40_crc.md R86). -/
def execCrcSeed (imm16 : Half) (s : State) : Host.Outcome State Fault Refusal :=
  .next (complete [] (setCrc imm16 s))

/-- `CRC.UPD imm8` (40_crc.md R87). -/
def execCrcUpd (imm8 : Byte) (s : State) : Host.Outcome State Fault Refusal :=
  .next (complete [] (setCrc (crcByte s.crc imm8) s))

/-- `CRC.BLK data` (40_crc.md R88). -/
def execCrcBlk (data : Bytes) (s : State) : Host.Outcome State Fault Refusal :=
  .next (complete [] (setCrc (crc16 data s.crc) s))

/-- `CRC.READ` (40_crc.md R89). -/
def execCrcRead (s : State) : Host.Outcome State Fault Refusal := .next (complete (le16 s.crc) s)

/-- `CRC.FCS` (40_crc.md R90): the complement is of the value returned, not of the register. -/
def execCrcFcs (s : State) : Host.Outcome State Fault Refusal := .next (complete (fcsOf s.crc) s)

/-- `CRC.CHK` (40_crc.md R91, R85): a mismatch is a result, not a failure. -/
def execCrcChk (s : State) : Host.Outcome State Fault Refusal :=
  .next (complete [if s.crc = RESIDUE then 0x01#8 else 0x00#8] s)

/-- The table of 40_crc.md R82(e): `T[i] = crc_byte(i, 0)`. -/
def crcTable (i : Byte) : Half := crcByte (i.zeroExtend 16) 0#8

/-- The table form of the byte step (40_crc.md R82(e)); no meaning uses it. -/
def crcByteByTable (c : Half) (b : Byte) : Half := (c >>> 8) ^^^ crcTable (lo8 (c ^^^ b.zeroExtend 16))

end Sys2Proof.Machine
end

