-- ==== Sys2Proof/Machine/Exchange.lean ====
section
/-! DEFINITION. The transaction engine (43_transaction.md): `XCHG` as the small-step machine of R143, one port call a
step, and whole, as R142 writes it. -/

namespace Sys2Proof.Machine

/-- The request's PCB: byte 1 of the frame in `TXBUF` (30_encoding.md R50). -/
def requestPcb (s : State) : Byte := s.txbuf.getD 1 0#8

/-- Enter a phase: `PHASE <- p`, `ATT <- 0` (10_state.md R16). -/
def enterPhase (p : Phase) (s : State) : State := clearAtt (setPhase p s)

/-- Step 2: the frame is built and `CRC` keeps the raw CRC of the request; `none` is `FrameTooLong` (43_transaction.md
R134). -/
def buildRequest (pcb : Byte) (data : Bytes) (s : State) : Option State :=
  (encodeFrame s.cfg.nad pcb data).map fun f => holdFrame (crc16 (frameHead s.cfg.nad pcb data) SEED0) f s

/-- Steps 6 to 8 on a remainder of the right length, which stands in `RXBUF` (43_transaction.md R139 to R141). -/
def settleExchange (s : State) : State :=
  if validate s.rxhdr s.rxbuf ≠ RESIDUE then
    raise (.crcError (s.rxbuf.getD (headerLen s.rxhdr) 0#8) (s.rxbuf.getD (headerLen s.rxhdr + 1) 0#8))
      (setCrc (validate s.rxhdr s.rxbuf) s)
  else
    complete (s.rxbuf.take (headerLen s.rxhdr))
      (setPhase .idle (seqOnSuccess (requestPcb s) (setCrc (validate s.rxhdr s.rxbuf) s)))

/-! ### The small-step machine (43_transaction.md R143) -/

/-- `XCHG pcb, data`, from `IDLE`: step 1, then `FrameTooLong`, or step 2 and the entry of `WRITE` (the first two rows
of R143). The port calls are the steps that follow. -/
def execXchg (pcb : Byte) (data : Bytes) (s : State) : Host.Outcome State Fault Refusal :=
  match buildRequest pcb data (seqOnRequest pcb s) with
  | none => .next (raise .frameTooLong (seqOnRequest pcb s))
  | some t => .next (enterPhase .write t)

/-- One attempt in a phase: `ok` goes on; `err` waits for the next attempt while the budget lasts, else raises
`TransportError` with this last error (43_transaction.md R132, R143). -/
def portStep (op : PortOp) (onOk : Bytes → State → State) (s : State) : State :=
  match callPort op s with
  | (.ok v, s) => onOk v s
  | (.err e, s) => if s.att < s.cfg.maxAtt.n then waitDelay s else raise (.transportError e) s

/-- The rows of R143 from `WRITE` (43_transaction.md R135). -/
def writeStep (s : State) : State := portStep (.write s.txbuf) (fun _ s => enterPhase .rdhdr s) s

/-- An `ok` answer to the header read (43_transaction.md R136, R137; 20_memory.md R36). -/
def headerRead (v : Bytes) (s : State) : State :=
  if v.length ≠ HDR_LEN then raise .malformedResponse s
  else enterPhase .rdbody (chainDiagnostic (headerPcb v) (holdHeader v s))

/-- The rows of R143 from `RDHDR`. -/
def rdhdrStep (s : State) : State := portStep (.read HDR_LEN) headerRead s

/-- An `ok` answer to the remainder read (43_transaction.md R138; 20_memory.md R36). -/
def bodyRead (v : Bytes) (s : State) : State :=
  if v.length ≠ headerLen s.rxhdr + FCS_LEN then raise .malformedResponse s
  else settleExchange (holdBody v s)

/-- The rows of R143 from `RDBODY`. -/
def rdbodyStep (s : State) : State := portStep (.read (headerLen s.rxhdr + FCS_LEN)) bodyRead s

/-! ### The whole operation (43_transaction.md R142) -/

/-- Steps 5 to 8, with the header in `RXHDR`. -/
def wholeFromBody (s : State) : State :=
  match retry (.read (headerLen s.rxhdr + FCS_LEN)) (setPhase .rdbody s) with
  | (.err e, t) => raise (.transportError e) t
  | (.ok b, t) => if b.length ≠ headerLen s.rxhdr + FCS_LEN then raise .malformedResponse t
    else settleExchange (holdBody b t)

/-- Steps 4 to 8. -/
def wholeFromHeader (s : State) : State :=
  match retry (.read HDR_LEN) (setPhase .rdhdr s) with
  | (.err e, t) => raise (.transportError e) t
  | (.ok h, t) => if h.length ≠ HDR_LEN then raise .malformedResponse t
    else wholeFromBody (chainDiagnostic (headerPcb h) (holdHeader h t))

/-- Steps 3 to 8, with the frame in `TXBUF`. -/
def wholeFromWrite (s : State) : State :=
  match retry (.write s.txbuf) (setPhase .write s) with
  | (.err e, t) => raise (.transportError e) t
  | (.ok _, t) => wholeFromHeader t

/-- `XCHG pcb, data` from its first step to its response, every port call included (R142, which governs). -/
def xchgWhole (pcb : Byte) (data : Bytes) (s : State) : State :=
  match buildRequest pcb data (seqOnRequest pcb s) with
  | none => raise .frameTooLong (seqOnRequest pcb s)
  | some t => wholeFromWrite t

end Sys2Proof.Machine
end

