-- ==== Sys2Proof/Machine/FrameCodec.lean ====
section
/-! DEFINITION. The frame codec's operations (41_frame_codec.md R101, R103, R105). -/

namespace Sys2Proof.Machine

/-- `FRM.ENC pcb, data` (41_frame_codec.md R101): the frame is the result, `CRC` keeps the accumulator before the
complement, the frame stands in `TXBUF` (10_state.md R17). -/
def execFrmEnc (pcb : Byte) (data : Bytes) (s : State) : Host.Outcome State Fault Refusal :=
  match encodeFrame s.cfg.nad pcb data with
  | none => .next (raise .frameTooLong s)
  | some f => .next (complete f (holdFrame (crc16 (frameHead s.cfg.nad pcb data) SEED0) f s))

/-- `FRM.HDR b0, b1, b2` (41_frame_codec.md R103): `b0` is ignored, the sum does not wrap. -/
def execFrmHdr (b0 b1 b2 : Byte) (s : State) : Host.Outcome State Fault Refusal :=
  .next (complete (headerPcb [b0, b1, b2] :: BitVec.ofNat 8 (headerLen [b0, b1, b2])
    :: le16 (BitVec.ofNat 16 (headerLen [b0, b1, b2] + 2))) s)

/-- `FRM.VAL data` (41_frame_codec.md R105): the two length tests, then the residue. -/
def execFrmVal (data : Bytes) (s : State) : Host.Outcome State Fault Refusal :=
  if data.length < 5 then .next (raise .malformedResponse s)
  else if data.length ≠ headerLen data + 5 then .next (raise .malformedResponse s)
  else if validate (data.take 3) (data.drop 3) ≠ RESIDUE then
    .next (raise (.crcError (data.getD (data.length - 2) 0#8) (data.getD (data.length - 1) 0#8))
      (setCrc (validate (data.take 3) (data.drop 3)) s))
  else .next (complete ((data.drop 3).take (headerLen data)) (setCrc (validate (data.take 3) (data.drop 3)) s))

end Sys2Proof.Machine
end

