-- ==== Sys2Proof/Machine/Pcb.lean ====
section
/-! DEFINITION. The three PCB classification rows of the opcode table (30_encoding.md R53 to R57): what `XCHG` does with
a PCB of the class. They are no commands: no response, `ERR` and `EINFO` as they were (log 3). -/

namespace Sys2Proof.Machine

/-- `PCB.IBLOCK`: step 8 of `XCHG` on a request PCB of the class (43_transaction.md R141). -/
def execPcbIblock (pcb : Byte) (s : State) : Host.Outcome State Fault Refusal := .next (seqOnSuccess pcb s)

/-- `PCB.RESET`: step 1 of `XCHG` on the request PCB 0xCF (43_transaction.md R133). -/
def execPcbReset (s : State) : Host.Outcome State Fault Refusal := .next (seqOnRequest PCB_RESET s)

/-- `PCB.CHAIN`: the chaining diagnostic on a response PCB of the class (43_transaction.md R137). -/
def execPcbChain (pcb : Byte) (s : State) : Host.Outcome State Fault Refusal := .next (chainDiagnostic pcb s)

end Sys2Proof.Machine
end

