-- ==== Sys2Proof/Machine/Sequence.lean ====
section
/-! DEFINITION. The sequence alternator's operations (42_sequence.md R121 to R124). -/

namespace Sys2Proof.Machine

/-- `SEQ.RST` (42_sequence.md R121). -/
def execSeqRst (s : State) : Host.Outcome State Fault Refusal := .next (complete [] (seqForce s))

/-- `SEQ.TGL` (42_sequence.md R122). -/
def execSeqTgl (s : State) : Host.Outcome State Fault Refusal := .next (complete [] (seqFlip s))

/-- `SEQ.RD` (42_sequence.md R124). -/
def execSeqRd (s : State) : Host.Outcome State Fault Refusal := .next (complete [s.seq.zeroExtend 8] s)

/-- `SEQ.PCB imm8` (42_sequence.md R123): bits 7..1 must be zero, else `IllegalCommand` (30_encoding.md R64). -/
def execSeqPcb (imm8 : Byte) (s : State) : Host.Outcome State Fault Refusal :=
  if imm8 >>> 1 = 0#8 then .next (complete [iblockPcb s.seq (imm8.extractLsb' 0 1)] s)
  else .next (raise .illegalCommand s)

end Sys2Proof.Machine
end

