-- ==== Sys2Proof/Machine/System.lean ====
section
/-! DEFINITION. System operations (44_system.md): `NOP`, `RDREG`, `SRESET`. -/

namespace Sys2Proof.Machine

/-- `NOP` (44_system.md R160). -/
def execNop (s : State) : Host.Outcome State Fault Refusal := .next (complete [] s)

/-- `RDREG imm8` (44_system.md R161): a legal register leaves `ERR` and `EINFO` as they were; an unknown register
number is `IllegalCommand`. -/
def execRdreg (imm8 : Byte) (s : State) : Host.Outcome State Fault Refusal :=
  match readReg s imm8 with
  | some v => .next (respond 0#8 (le16 v) s)
  | none => .next (raise .illegalCommand s)

/-- `SRESET` (44_system.md R162). -/
def execSreset (s : State) : Host.Outcome State Fault Refusal := .next (complete [] (resetBlock s))

end Sys2Proof.Machine
end

