-- ==== Sys2Proof/Machine/Dispatch.lean ====
section
/-! DEFINITION. `exec`: one arm for each row of the opcode table, each a direct call of its meaning. -/

namespace Sys2Proof.Machine

def exec (i : Instr) (s : State) : Host.Outcome State Fault Refusal :=
  match i with
  | .nop => Sys2Proof.Machine.execNop s
  | .rdreg imm8 => Sys2Proof.Machine.execRdreg imm8 s
  | .sreset => Sys2Proof.Machine.execSreset s
  | .crcSeed imm16 => Sys2Proof.Machine.execCrcSeed imm16 s
  | .crcUpd imm8 => Sys2Proof.Machine.execCrcUpd imm8 s
  | .crcBlk data => Sys2Proof.Machine.execCrcBlk data s
  | .crcRead => Sys2Proof.Machine.execCrcRead s
  | .crcFcs => Sys2Proof.Machine.execCrcFcs s
  | .crcChk => Sys2Proof.Machine.execCrcChk s
  | .frmEnc pcb data => Sys2Proof.Machine.execFrmEnc pcb data s
  | .frmHdr b0 b1 b2 => Sys2Proof.Machine.execFrmHdr b0 b1 b2 s
  | .frmVal data => Sys2Proof.Machine.execFrmVal data s
  | .seqRst => Sys2Proof.Machine.execSeqRst s
  | .seqTgl => Sys2Proof.Machine.execSeqTgl s
  | .seqRd => Sys2Proof.Machine.execSeqRd s
  | .seqPcb imm8 => Sys2Proof.Machine.execSeqPcb imm8 s
  | .xchg pcb data => Sys2Proof.Machine.execXchg pcb data s
  | .pcbIblock pcb => Sys2Proof.Machine.execPcbIblock pcb s
  | .pcbReset => Sys2Proof.Machine.execPcbReset s
  | .pcbChain pcb => Sys2Proof.Machine.execPcbChain pcb s

end Sys2Proof.Machine
end

