-- ==== Sys2Proof/WellFormed.lean ====
section
/-! DEFINITION. Which terms of `Instr` the spec's encodings can express (30_encoding.md R61, R64; the `constraint`,
`match` and `mask` entries of the opcode table). -/

namespace Sys2Proof

/-- The length field of the formats V and X is 16 bits (30_encoding.md R61). -/
abbrev dataFits (data : Bytes) : Prop := data.length ≤ 65535

/-- `RDREG` names one of the registers 0 to 3 (30_encoding.md R64(d)). -/
abbrev registerExists (r : Byte) : Prop := r ≤ 3#8

/-- The operand of `SEQ.PCB` has its bits 7..1 zero (30_encoding.md R64(e)). -/
abbrev chainFlagOnly (m : Byte) : Prop := m ≤ 1#8

/-- The row `PCB.IBLOCK`: mask 0x80, match 0x00 (30_encoding.md R55). -/
abbrev iblockPattern (pcb : Byte) : Prop := pcb &&& 0x80#8 = 0x00#8

/-- The row `PCB.CHAIN`: mask 0xA0, match 0x20 (30_encoding.md R57). -/
abbrev chainPattern (pcb : Byte) : Prop := pcb &&& 0xA0#8 = 0x20#8

/-- What an encoding of the instruction must meet. -/
def Instr.wf : Instr → Bool
  | .rdreg r => decide (registerExists r)
  | .crcBlk data => decide (dataFits data)
  | .frmEnc _ data => decide (dataFits data)
  | .frmVal data => decide (dataFits data)
  | .seqPcb m => decide (chainFlagOnly m)
  | .xchg _ data => decide (dataFits data)
  | .pcbIblock pcb => decide (iblockPattern pcb)
  | .pcbChain pcb => decide (chainPattern pcb)
  | .nop | .sreset | .crcSeed _ | .crcUpd _ | .crcRead | .crcFcs | .crcChk => true
  | .frmHdr _ _ _ | .seqRst | .seqTgl | .seqRd | .pcbReset => true

end Sys2Proof
end

