-- ==== Sys2Proof/Decode.lean ====
section
/-! DEFINITION. The decoder of command messages (30_encoding.md R60 to R64), total on any byte string and rejecting by
name; the encoder, from the same table; and the PCB classification rows (R55 to R57). -/

namespace Sys2Proof

open Sys2Proof.Machine

/-- Why a command message is illegal: the cases (a) to (e) of 30_encoding.md R64. -/
inductive DecodeError where
  /-- (a) the empty message -/
  | emptyMessage
  /-- (b) an opcode byte not in the table of R62 -/
  | unknownOpcode (op : Byte)
  /-- (c) a length that does not fit the format -/
  | lengthMismatch
  /-- (d) `RDREG` with `imm8 > 3` -/
  | noSuchRegister (r : Byte)
  /-- (e) `SEQ.PCB` with a non-zero bit among `imm8[7:1]` -/
  | reservedBits (m : Byte)
  deriving DecidableEq, Repr

/-- The opcode map of 30_encoding.md R62: opcode byte to format. -/
def opcodeFormat (op : Byte) : Option Format :=
  if op = 0x00#8 ∨ op = 0x0F#8 ∨ op = 0x13#8 ∨ op = 0x14#8 ∨ op = 0x15#8 ∨ op = 0x30#8 ∨ op = 0x31#8 ∨ op = 0x32#8
    then some .N
  else if op = 0x01#8 ∨ op = 0x11#8 ∨ op = 0x33#8 then some .B
  else if op = 0x10#8 then some .H
  else if op = 0x21#8 then some .T
  else if op = 0x12#8 ∨ op = 0x22#8 then some .V
  else if op = 0x20#8 ∨ op = 0x40#8 then some .X
  else none

/-- The operation that an opcode of the table selects, given its operands (30_encoding.md R62, R64(d), R64(e)). -/
def instrOf (op : Byte) (o : Operands) : Except DecodeError Instr :=
  match o with
  | .none =>
    if op = 0x00#8 then .ok .nop
    else if op = 0x0F#8 then .ok .sreset
    else if op = 0x13#8 then .ok .crcRead
    else if op = 0x14#8 then .ok .crcFcs
    else if op = 0x15#8 then .ok .crcChk
    else if op = 0x30#8 then .ok .seqRst
    else if op = 0x31#8 then .ok .seqTgl
    else if op = 0x32#8 then .ok .seqRd
    else .error (.unknownOpcode op)
  | .imm8 b =>
    if op = 0x01#8 then if registerExists b then .ok (.rdreg b) else .error (.noSuchRegister b)
    else if op = 0x11#8 then .ok (.crcUpd b)
    else if op = 0x33#8 then if chainFlagOnly b then .ok (.seqPcb b) else .error (.reservedBits b)
    else .error (.unknownOpcode op)
  | .imm16 v => if op = 0x10#8 then .ok (.crcSeed v) else .error (.unknownOpcode op)
  | .header b0 b1 b2 => if op = 0x21#8 then .ok (.frmHdr b0 b1 b2) else .error (.unknownOpcode op)
  | .data d =>
    if op = 0x12#8 then .ok (.crcBlk d)
    else if op = 0x22#8 then .ok (.frmVal d)
    else .error (.unknownOpcode op)
  | .pcbData p d =>
    if op = 0x20#8 then .ok (.frmEnc p d)
    else if op = 0x40#8 then .ok (.xchg p d)
    else .error (.unknownOpcode op)

/-- Decode one command message (30_encoding.md R60, R63, R64). -/
def decode (m : Bytes) : Except DecodeError Instr :=
  match m with
  | [] => .error .emptyMessage
  | op :: ops =>
    match opcodeFormat op with
    | none => .error (.unknownOpcode op)
    | some f =>
      match f.parse ops with
      | none => .error .lengthMismatch
      | some o => instrOf op o

/-- The three tests `XCHG` makes on a PCB, each with a row of the table (30_encoding.md R53). -/
inductive PcbTest where
  /-- step 1: the request PCB against the reset/ATR value (R56) -/
  | step1
  /-- step 8: the request PCB as an information block (R55) -/
  | step8
  /-- the response header's PCB as chaining continuation (R57) -/
  | response
  deriving DecidableEq, Repr

/-- The table's row that a PCB matches under a test, if it does (opcode_table.json, space "pcb"; the default
configuration functions). -/
def decodePcb (t : PcbTest) (pcb : Byte) : Option Instr :=
  match t with
  | .step1 => if pcb = 0xCF#8 then some .pcbReset else none
  | .step8 => if iblockPattern pcb then some (.pcbIblock pcb) else none
  | .response => if chainPattern pcb then some (.pcbChain pcb) else none

/-! ### The encoder -/

/-- Byte 0 of a command message, or the PCB of a classification row (30_encoding.md R62, R54 to R57). -/
def opcodeOf : Instr → Byte
  | .nop => 0x00#8
  | .rdreg _ => 0x01#8
  | .sreset => 0x0F#8
  | .crcSeed _ => 0x10#8
  | .crcUpd _ => 0x11#8
  | .crcBlk _ => 0x12#8
  | .crcRead => 0x13#8
  | .crcFcs => 0x14#8
  | .crcChk => 0x15#8
  | .frmEnc _ _ => 0x20#8
  | .frmHdr _ _ _ => 0x21#8
  | .frmVal _ => 0x22#8
  | .seqRst => 0x30#8
  | .seqTgl => 0x31#8
  | .seqRd => 0x32#8
  | .seqPcb _ => 0x33#8
  | .xchg _ _ => 0x40#8
  | .pcbIblock pcb => pcb
  | .pcbReset => 0xCF#8
  | .pcbChain pcb => pcb

/-- The operands of an instruction in its format (30_encoding.md R61, R62). -/
def operandsOf : Instr → Operands
  | .rdreg r => .imm8 r
  | .crcSeed v => .imm16 v
  | .crcUpd b => .imm8 b
  | .crcBlk d => .data d
  | .frmEnc p d => .pcbData p d
  | .frmHdr b0 b1 b2 => .header b0 b1 b2
  | .frmVal d => .data d
  | .seqPcb m => .imm8 m
  | .xchg p d => .pcbData p d
  | .nop | .sreset | .crcRead | .crcFcs | .crcChk => .none
  | .seqRst | .seqTgl | .seqRd => .none
  | .pcbIblock _ | .pcbReset | .pcbChain _ => .none

/-- The command message of a well-formed operation (30_encoding.md R61, R62); for a PCB row, its PCB byte. -/
def encode (i : Instr) : Bytes := opcodeOf i :: (operandsOf i).bytes

/-! ### The table's numbering of bits -/

/-- The first `k` bytes of a message numbered as the opcode table numbers it: bit 0 is the least significant bit of
byte 0, byte 1 is bits 15..8. -/
def messageBytes (k w : Nat) : Bytes :=
  match k with
  | 0 => []
  | k + 1 => BitVec.ofNat 8 w :: messageBytes k (w / 256)

/-- The bytes of a message completed with zero bytes up to the length its opcode and length field give it
(30_encoding.md R63). An unknown opcode is left as it is. -/
def completeMessage (m : Bytes) : Bytes :=
  match opcodeFormat (m.getD 0 0) with
  | none => m
  | some f => m ++ List.replicate (f.messageLength (m.getD 1 0) (m.getD 2 0) (m.getD 3 0) - m.length) 0#8

/-- The message that an instruction of `nbits` bits with value `w` is. -/
def tableMessage (nbits w : Nat) : Bytes := completeMessage (messageBytes ((nbits + 7) / 8) w)

/-- What the decoder reads from the message. The three PCB rows are bytes of a frame and not commands, so their byte
is read here as the command it is (0x00 `NOP`, 0x20 `FRM.ENC`) or refused (0xCF); `decodePcb` reads them (log 3). -/
def decodeTableWord (nbits w : Nat) : Option Instr :=
  match decode (tableMessage nbits w) with
  | .ok i => some i
  | .error _ => none

end Sys2Proof
end

