-- ==== Sys2Proof/Machine/Fetch.lean ====
section
/-! DEFINITION. What a step does outside `exec`: taking a command message from the host port (20_memory.md R31, R47),
an illegal message (30_encoding.md R64), and the step of an exchange in progress (43_transaction.md R143). -/

namespace Sys2Proof.Machine

/-- What the block finds when it is ready for a command. -/
inductive Fetched where
  /-- no command is waiting -/
  | nothing
  /-- a command message, taken off the queue -/
  | command (i : Instr) (s : State)
  /-- an illegal message, taken off the queue -/
  | illegal (s : State)

/-- Take the host's next command message and decode it (20_memory.md R47). -/
def fetch (s : State) : Fetched :=
  match s.inbox with
  | [] => .nothing
  | m :: rest =>
    match decode m with
    | .ok i => .command i (dropCommand rest s)
    | .error _ => .illegal (dropCommand rest s)

/-- An illegal message: `IllegalCommand`, and no other change (30_encoding.md R64, 60_exceptions.md R175). -/
def illegalStep (s : State) : State := raise .illegalCommand s

/-- One step of an exchange in progress: one attempt of the phase's port call (43_transaction.md R143). -/
def exchangeStep (s : State) : State :=
  match s.phase with
  | .idle => s
  | .write => writeStep s
  | .rdhdr => rdhdrStep s
  | .rdbody => rdbodyStep s

/-- The host issues the message next: the block is ready for it and it stands first in the queue (20_memory.md
R31). -/
def deliver (m : Bytes) (s : State) : State := { s with phase := .idle, inbox := m :: s.inbox }

end Sys2Proof.Machine
end

