-- ==== Sys2Proof/Machine/Step.lean ====
section
/-! DEFINITION. One step: in `PHASE = IDLE` one command message, else one port call of the exchange in progress
(10_state.md R15, 43_transaction.md R143). -/

namespace Sys2Proof.Machine

/-- One step. In `IDLE` with no command waiting the block holds its registers (60_exceptions.md R192, log 16). -/
def step (s : State) : Host.Outcome State Fault Refusal :=
  match s.phase with
  | .idle =>
    match fetch s with
    | .nothing => .next s
    | .command i s => exec i s
    | .illegal s => .next (illegalStep s)
  | .write | .rdhdr | .rdbody => .next (exchangeStep s)

/-- The instruction of `nbits` bits with value `w`, as the table numbers its bits, delivered as the host's next command
(log 2). -/
def State.withFetchWord (s : State) (nbits w : Nat) : State := deliver (tableMessage nbits w) s

end Sys2Proof.Machine
end

