-- ==== Sys2Proof/Machine/Assembler.lean ====
section
/-! DEFINITION. The pseudo-operations (30_encoding.md R68), how the host executes one whose later operation takes an
earlier one's result, and the text of an operation (R67). -/

namespace Sys2Proof

open Sys2Proof.Machine

/-! ### Pseudo-operations (30_encoding.md R68) -/

/-- `data` in consecutive pieces of at most `k` bytes, at least one piece; `fuel` bounds the number of cuts. -/
def piecesFuel (k : Nat) : Nat → Bytes → List Bytes
  | 0, data => [data]
  | fuel + 1, data => if data.length ≤ k then [data] else data.take k :: piecesFuel k fuel (data.drop k)

/-- The pieces one `CRC.BLK` each can carry: at most 65535 bytes (30_encoding.md R68, 92_eei_decisions.md D31). -/
def crcPieces (data : Bytes) : List Bytes := piecesFuel 65535 data.length data

/-- `CRC16 data, seed`: `CRC.SEED seed`; `CRC.BLK` for each piece of the data; `CRC.READ`. -/
def pseudoCrc16 (data : Bytes) (seed : Half) : List Instr :=
  Instr.crcSeed seed :: (crcPieces data).map Instr.crcBlk ++ [Instr.crcRead]

/-- `FCS16 data`: `CRC.SEED 0xFFFF`; `CRC.BLK` for each piece of the data; `CRC.FCS`. -/
def pseudoFcs16 (data : Bytes) : List Instr :=
  Instr.crcSeed 0xFFFF#16 :: (crcPieces data).map Instr.crcBlk ++ [Instr.crcFcs]

/-- `IXCHG payload`, its first operation: `SEQ.PCB 0 -> p`. -/
def pseudoIxchgPcb : Instr := .seqPcb 0x00#8

/-- `IXCHG payload`, its second operation: `XCHG p, payload`. -/
def pseudoIxchg (p : Byte) (payload : Bytes) : Instr := .xchg p payload

/-- The result byte of a response: the first byte of its data, after the status and the length (30_encoding.md R65). -/
def resultByte (response : Bytes) : Byte := response.getD 3 0#8

/-- The response the host received last; empty before the first. -/
def lastResponse (s : State) : Bytes := s.outbox.getLast?.getD []

/-- Operations the host executes one after another, each chosen from the response to the one before. -/
abbrev LinkedOps := List (Bytes → Instr)

/-- `IXCHG payload`, whole: `SEQ.PCB 0 -> p; XCHG p, payload`, the result byte of the first as the PCB of the second. -/
def pseudoIxchgOps (payload : Bytes) : LinkedOps :=
  [fun _ => pseudoIxchgPcb, fun response => pseudoIxchg (resultByte response) payload]

/-- The host executes operations, handing each the response it received last. An `XCHG` may stand last only: its port
calls are steps of their own. -/
def execLinked : LinkedOps → State → Host.Outcome State Fault Refusal
  | [], s => .next s
  | op :: rest, s =>
    match exec (op (lastResponse s)) s with
    | .next t => execLinked rest t
    | .fault r => .fault r
    | .refused r => .refused r

/-- `IXCHG payload`: executed from `s` to the start of its exchange. -/
def execIxchg (payload : Bytes) (s : State) : Host.Outcome State Fault Refusal :=
  execLinked (pseudoIxchgOps payload) s

/-- `RESETX`: `XCHG 0xCF, []`. -/
def pseudoResetx : Instr := .xchg 0xCF#8 []

/-! ### Assembler text (30_encoding.md R67) -/

/-- One hexadecimal digit. -/
def hexDigit (n : Nat) : Char := if n < 10 then Char.ofNat (48 + n) else Char.ofNat (55 + n)

/-- A byte as two hexadecimal digits. -/
def hexByte (b : Byte) : List Char := [hexDigit (b.toNat / 16), hexDigit (b.toNat % 16)]

/-- A byte operand, `0x` and two digits. -/
def asmByte (b : Byte) : List Char := '0' :: 'x' :: hexByte b

/-- A 16-bit operand, `0x` and four digits. -/
def asmHalf (v : Half) : List Char :=
  '0' :: 'x' :: hexByte (v.extractLsb' 8 8) ++ hexByte (v.extractLsb' 0 8)

/-- The bytes of a byte string, separated by one space. -/
def asmBytesIn : Bytes → List Char
  | [] => []
  | [b] => hexByte b
  | b :: c :: rest => hexByte b ++ ' ' :: asmBytesIn (c :: rest)

/-- A byte string operand in square brackets. -/
def asmBytes (bs : Bytes) : List Char := '[' :: asmBytesIn bs ++ [']']

/-- Operands separated by a comma and a space, after the mnemonic and a space. -/
def asmLine (mnemonic : String) (operands : List (List Char)) : List Char :=
  match operands with
  | [] => mnemonic.toList
  | o :: rest => mnemonic.toList ++ ' ' :: o ++ (rest.map fun p => ',' :: ' ' :: p).flatten

/-- An operation as 30_encoding.md R67 writes it: its mnemonic, then comma-separated operands. A PCB row is written with
its table name and the PCB. -/
def Instr.asm : Instr → List Char
  | .nop => asmLine "NOP" []
  | .rdreg r => asmLine "RDREG" [asmByte r]
  | .sreset => asmLine "SRESET" []
  | .crcSeed v => asmLine "CRC.SEED" [asmHalf v]
  | .crcUpd b => asmLine "CRC.UPD" [asmByte b]
  | .crcBlk d => asmLine "CRC.BLK" [asmBytes d]
  | .crcRead => asmLine "CRC.READ" []
  | .crcFcs => asmLine "CRC.FCS" []
  | .crcChk => asmLine "CRC.CHK" []
  | .frmEnc p d => asmLine "FRM.ENC" [asmByte p, asmBytes d]
  | .frmHdr a b c => asmLine "FRM.HDR" [asmByte a, asmByte b, asmByte c]
  | .frmVal d => asmLine "FRM.VAL" [asmBytes d]
  | .seqRst => asmLine "SEQ.RST" []
  | .seqTgl => asmLine "SEQ.TGL" []
  | .seqRd => asmLine "SEQ.RD" []
  | .seqPcb m => asmLine "SEQ.PCB" [asmByte m]
  | .xchg p d => asmLine "XCHG" [asmByte p, asmBytes d]
  | .pcbIblock p => asmLine "PCB.IBLOCK" [asmByte p]
  | .pcbReset => asmLine "PCB.RESET" []
  | .pcbChain p => asmLine "PCB.CHAIN" [asmByte p]

end Sys2Proof
end

