-- ==== Sys2Proof/Safety.lean ====
section
/-! DEFINITION. What counts as a legal state of the block, the invariant that every step keeps, and the terms the
statements use. -/

namespace Sys2Proof.Machine

/-- The byte of a 16-bit value sent first, as a number: its value modulo 256 (20_memory.md R41). -/
def lowByte (v : Half) : Byte := BitVec.ofNat 8 (v.toNat % 256)

/-- The byte of a 16-bit value sent second, as a number: its value divided by 256 (20_memory.md R41). -/
def highByte (v : Half) : Byte := BitVec.ofNat 8 (v.toNat / 256)

/-- A complete encoded frame of this instance: its node address, its length byte, its checksum (30_encoding.md R50 to
R52, 00_scope.md R6). -/
def completeFrame (nad : Byte) (f : Bytes) : Prop :=
  5 ≤ f.length ∧ f.length ≤ 258 ∧ f.getD 0 0#8 = nad ∧ (f.getD 2 0#8).toNat + 5 = f.length ∧ crc16 f SEED0 = RESIDUE

/-- A port event this instance can make (20_memory.md R33 to R35, R43): its own bus and address, no register select;
a write of one complete frame, answered without bytes; a read of 2 to 257 bytes. -/
def eventLegal (cfg : Config) (e : PortEvent) : Prop :=
  e.call.bus = cfg.busId ∧ e.call.address = cfg.devAddr ∧ e.call.register = none ∧
  match e.call.op with
  | .write v => completeFrame cfg.nad v ∧ ∀ b, e.answer = .ok b → b = []
  | .read n => 2 ≤ n ∧ n ≤ 257

/-- A response message: a status code of 60_exceptions.md R170, a length field that is the data's length, and the data
(30_encoding.md R65). -/
def responseLegal (r : Bytes) : Prop :=
  ∃ status lo hi : Byte, ∃ data : Bytes, r = status :: lo :: hi :: data ∧ status ≤ 5#8 ∧
    data.length = lo.toNat + 256 * hi.toNat

/-- What holds between steps (10_state.md R13 to R17, 20_memory.md R32, R35, R43). -/
structure Inv (s : State) : Prop where
  /-- `ERR` holds a status code: values 6 and 7 never occur, bits 7..3 read 0 (R13). -/
  errCode : s.err ≤ 5#8
  /-- `EINFO` is 0 for every status but `CRCError` (R14). -/
  infoOnlyCrc : s.err ≠ 3#8 → s.einfo = 0#16
  /-- `ATT` is in 0..MAXATT (R16). -/
  attBound : s.att ≤ s.cfg.maxAtt.n
  /-- While an exchange runs an attempt is left (43_transaction.md R143). -/
  attLeft : s.phase ≠ .idle → s.att < s.cfg.maxAtt.n
  /-- `TXBUF` is empty or the last frame built (R17). -/
  txFrame : s.txbuf = [] ∨ completeFrame s.cfg.nad s.txbuf
  /-- While an exchange runs `TXBUF` is its frame and `CRC` the raw CRC of its header and payload (43_transaction.md
  R134, R142). -/
  txRunning : s.phase ≠ .idle →
    completeFrame s.cfg.nad s.txbuf ∧ s.crc = crc16 (s.txbuf.take (s.txbuf.length - 2)) SEED0
  /-- `RXHDR` has 0 or 3 bytes (R17). -/
  rxHeader : s.rxhdr.length = 0 ∨ s.rxhdr.length = 3
  /-- The header has been read when the remainder is (43_transaction.md R143). -/
  rxHeaderRead : s.phase = .rdbody → s.rxhdr.length = 3
  /-- `RXBUF` has at most 257 bytes (R17). -/
  rxBody : s.rxbuf.length ≤ 257
  /-- Every port call made so far was a legal one. -/
  eventsLegal : ∀ e ∈ s.events, eventLegal s.cfg e
  /-- Every response delivered so far was well formed. -/
  responsesLegal : ∀ r ∈ s.outbox, responseLegal r

/-- The state after one attempt of a port call that was answered `a`, from the state `t` in which the answer has been
taken: one attempt more, one event, one record where a sink is attached (43_transaction.md R132, 20_memory.md R38,
60_exceptions.md R190). -/
def attempted (op : PortOp) (a : PortAnswer) (t : State) : State :=
  { t with
    att := t.att + 1
    events := t.events ++ [⟨⟨t.cfg.busId, t.cfg.devAddr, none, op⟩, a⟩]
    diag := bif t.cfg.sink then
        t.diag ++ [match op with
          | .write v => .portW t.cfg.devAddr none v a
          | .read n => .portR t.cfg.devAddr none n a]
      else t.diag }

/-- The event of a port call of this instance. -/
def eventOf (cfg : Config) (op : PortOp) (a : PortAnswer) : PortEvent := ⟨⟨cfg.busId, cfg.devAddr, none, op⟩, a⟩

/-- From `s` to `t` the port was asked for a header and answered `RXHDR`, 3 bytes, then for the declared length plus 2
and answered `RXBUF`, that many bytes, as the last call; every call between the two failed (43_transaction.md R136,
R138). -/
def responseReceived (s t : State) : Prop :=
  t.rxhdr.length = 3 ∧ t.rxbuf.length = (t.rxhdr.getD 2 0#8).toNat + 2 ∧
  ∃ before between : List PortEvent,
    t.events = s.events ++ before ++ eventOf s.cfg (.read 3) (.ok t.rxhdr) ::
      (between ++ [eventOf s.cfg (.read ((t.rxhdr.getD 2 0#8).toNat + 2)) (.ok t.rxbuf)]) ∧
    ∀ e ∈ between, ∃ x, e = eventOf s.cfg (.read ((t.rxhdr.getD 2 0#8).toNat + 2)) (.err x)

/-- What the host can observe: the registers, the responses, the port's events (10_state.md R10, R15 to R17). -/
structure Visible where
  crc : Half
  seq : BitVec 1
  err : Byte
  einfo : Half
  outbox : List Bytes
  events : List PortEvent
  deriving DecidableEq, Repr

/-- The host's view of a state. -/
def visible (s : State) : Visible :=
  { crc := s.crc, seq := s.seq, err := s.err, einfo := s.einfo, outbox := s.outbox, events := s.events }

/-- `k` steps of the machine, stopping at the first that answers no next state. -/
def runSteps : Nat → State → Host.Outcome State Fault Refusal
  | 0, s => .next s
  | k + 1, s =>
    match step s with
    | .next t => runSteps k t
    | .fault r => .fault r
    | .refused r => .refused r

/-- Execute a list of operations one after another, each an operation that completes in one step. -/
def execAll : List Instr → State → Host.Outcome State Fault Refusal
  | [], s => .next s
  | i :: rest, s =>
    match exec i s with
    | .next t => execAll rest t
    | .fault r => .fault r
    | .refused r => .refused r

end Sys2Proof.Machine
end

