-- ==== Sys2Proof/Certificates/Slice0/Obligations.lean ====
section
/-! DEFINITION. The statements for the provers. A record update states a whole state: every field not named is
unchanged. Results and registers are written out as bytes and numbers, not through the model's own helpers. -/

open Sys2Proof Sys2Proof.Machine

/-! ### Reset and the invariant -/

/-- R20, R22: what reset leaves, but for the unspecified `CRC`.
The spec's own decisions D9 and D10 (log 18). -/
def Obligations.ResetStateValues : Prop :=
  State.reset.seq = 0#1 ∧ State.reset.err = 0#8 ∧ State.reset.einfo = 0#16 ∧ State.reset.phase = .idle ∧
  State.reset.att = 0 ∧ State.reset.txbuf = [] ∧ State.reset.rxhdr = [] ∧ State.reset.rxbuf = [] ∧
  State.reset.events = []

/-- The invariant of Safety.lean holds right after reset.
The reset values are the spec's own decisions D9 and D10 (log 18). -/
def Obligations.ResetMeetsInvariant : Prop := Inv State.reset

/-- Every step keeps the invariant: `ERR` a status code, `EINFO` only for `CRCError`, `ATT` within its budget, the
buffers within their sizes, the running exchange's frame complete and its raw CRC in `CRC`, every port call and every
response well formed.
That the buffers (log 10) and `ATT` (log 11) stand between operations is the model's, what `CRC` keeps the spec's own
decision D11 (log 18). -/
def Obligations.StepKeepsInvariant : Prop := ∀ s t : State, Inv s → step s = .next t → Inv t

/-! ### System operations -/

/-- R160: `NOP` clears `ERR` and `EINFO` and does nothing else.
The spec's own decision D2 (log 18). -/
def Obligations.NopClearsStatus : Prop :=
  decode [0x00#8] = .ok .nop ∧
  ∀ s : State, exec .nop s = .next { s with
    err := 0#8, einfo := 0#16, outbox := s.outbox ++ [[0#8, 0#8, 0#8]] }

/-- R161: `RDREG` returns a register zero-extended and writes none; an unknown number is `IllegalCommand`.
The spec's own decisions D4 and D27 (log 18). -/
def Obligations.RdregReadsRegisters : Prop :=
  (∀ r : Byte, r ≤ 3#8 → decode [0x01#8, r] = .ok (.rdreg r)) ∧
  ∀ s : State,
    exec (.rdreg 0#8) s = .next { s with
      outbox := s.outbox ++ [[0#8, 2#8, 0#8, lowByte s.crc, highByte s.crc]] } ∧
    exec (.rdreg 1#8) s = .next { s with
      outbox := s.outbox ++ [[0#8, 2#8, 0#8, BitVec.ofNat 8 s.seq.toNat, 0#8]] } ∧
    exec (.rdreg 2#8) s = .next { s with outbox := s.outbox ++ [[0#8, 2#8, 0#8, s.err, 0#8]] } ∧
    exec (.rdreg 3#8) s = .next { s with
      outbox := s.outbox ++ [[0#8, 2#8, 0#8, lowByte s.einfo, highByte s.einfo]] } ∧
    ∀ r : Byte, 3#8 < r → exec (.rdreg r) s = .next { s with
      err := 5#8, einfo := 0#16, phase := .idle, outbox := s.outbox ++ [[5#8, 0#8, 0#8]] }

/-- R162, R201: `SRESET` starts a session. Some value stands in `CRC`. That the event history starts empty is the
model's reading (log 12), and so is the counter of draws.
The spec's own decision D23 (log 18). -/
def Obligations.SresetStartsSession : Prop :=
  decode [0x0F#8] = .ok .sreset ∧
  ∀ s : State, ∃ c : Half, exec .sreset s = .next { s with
    crc := c, seq := 0#1, err := 0#8, einfo := 0#16, phase := .idle, att := 0, txbuf := [], rxhdr := [], rxbuf := [],
    events := [], draws := s.draws + 1, outbox := s.outbox ++ [[0#8, 0#8, 0#8]] }

/-! ### CRC operations -/

/-- R86: `CRC.SEED` loads the accumulator. -/
def Obligations.CrcSeedLoads : Prop :=
  (∀ v : Half, decode [0x10#8, lowByte v, highByte v] = .ok (.crcSeed v)) ∧
  ∀ (v : Half) (s : State), exec (.crcSeed v) s = .next { s with
    crc := v, err := 0#8, einfo := 0#16, outbox := s.outbox ++ [[0#8, 0#8, 0#8]] }

/-- R87: `CRC.UPD` makes one byte step. -/
def Obligations.CrcUpdStepsOneByte : Prop :=
  (∀ b : Byte, decode [0x11#8, b] = .ok (.crcUpd b)) ∧
  ∀ (b : Byte) (s : State), exec (.crcUpd b) s = .next { s with
    crc := crcByte s.crc b, err := 0#8, einfo := 0#16, outbox := s.outbox ++ [[0#8, 0#8, 0#8]] }

/-- R88: `CRC.BLK` folds the byte step over its data; an empty block leaves `CRC`, two blocks equal their
concatenation, one byte equals `CRC.UPD`.
The bound of 65535 is the spec's own decision D31 (log 18). -/
def Obligations.CrcBlkFoldsData : Prop :=
  (∀ d : Bytes, d.length ≤ 65535 →
    decode (0x12#8 :: BitVec.ofNat 8 (d.length % 256) :: BitVec.ofNat 8 (d.length / 256) :: d) = .ok (.crcBlk d)) ∧
  (∀ (d : Bytes) (s : State), exec (.crcBlk d) s = .next { s with
    crc := d.foldl crcByte s.crc, err := 0#8, einfo := 0#16, outbox := s.outbox ++ [[0#8, 0#8, 0#8]] }) ∧
  (∀ s : State, exec (.crcBlk []) s = .next { s with
    err := 0#8, einfo := 0#16, outbox := s.outbox ++ [[0#8, 0#8, 0#8]] }) ∧
  (∀ (a b : Bytes) (s t u v : State), exec (.crcBlk a) s = .next t → exec (.crcBlk b) t = .next u →
    exec (.crcBlk (a ++ b)) s = .next v → u.crc = v.crc) ∧
  (∀ (b : Byte) (s : State), exec (.crcBlk [b]) s = exec (.crcUpd b) s)

/-- R89: `CRC.READ` returns the raw accumulator, low byte first. -/
def Obligations.CrcReadReturnsRaw : Prop :=
  decode [0x13#8] = .ok .crcRead ∧
  ∀ s : State, exec .crcRead s = .next { s with
    err := 0#8, einfo := 0#16, outbox := s.outbox ++ [[0#8, 2#8, 0#8, lowByte s.crc, highByte s.crc]] }

/-- R90: `CRC.FCS` returns the complement, low byte first, and leaves the register; feeding the two bytes back leaves
the residue. -/
def Obligations.CrcFcsReturnsComplement : Prop :=
  decode [0x14#8] = .ok .crcFcs ∧
  ∀ s : State,
    exec .crcFcs s = .next { s with
      err := 0#8, einfo := 0#16
      outbox := s.outbox ++ [[0#8, 2#8, 0#8, lowByte (s.crc ^^^ 0xFFFF#16), highByte (s.crc ^^^ 0xFFFF#16)]] } ∧
    ∀ t u : State, exec (.crcUpd (lowByte (s.crc ^^^ 0xFFFF#16))) s = .next t →
      exec (.crcUpd (highByte (s.crc ^^^ 0xFFFF#16))) t = .next u → u.crc = 0xF0B8#16

/-- R91: `CRC.CHK` compares with the residue on all 16 bits, and a mismatch is no error. -/
def Obligations.CrcChkComparesResidue : Prop :=
  decode [0x15#8] = .ok .crcChk ∧
  ∀ s : State,
    (s.crc = 0xF0B8#16 → exec .crcChk s = .next { s with
      err := 0#8, einfo := 0#16, outbox := s.outbox ++ [[0#8, 1#8, 0#8, 1#8]] }) ∧
    (s.crc ≠ 0xF0B8#16 → exec .crcChk s = .next { s with
      err := 0#8, einfo := 0#16, outbox := s.outbox ++ [[0#8, 1#8, 0#8, 0#8]] })

/-! ### Frame codec operations -/

/-- R100, R101: `FRM.ENC` builds the frame from the instance's `NAD`, leaves the raw CRC of header and payload, and
refuses 254 bytes or more with nothing changed but the status.
What `CRC` keeps is the spec's own decision D11, that `TXBUF` is written its decision D4 (log 18). -/
def Obligations.FrmEncBuildsFrame : Prop :=
  (∀ (p : Byte) (d : Bytes), d.length ≤ 65535 →
    decode (0x20#8 :: p :: BitVec.ofNat 8 (d.length % 256) :: BitVec.ofNat 8 (d.length / 256) :: d)
      = .ok (.frmEnc p d)) ∧
  ∀ (p : Byte) (d : Bytes) (s : State),
    (254 ≤ d.length → exec (.frmEnc p d) s = .next { s with
      err := 2#8, einfo := 0#16, phase := .idle, outbox := s.outbox ++ [[2#8, 0#8, 0#8]] }) ∧
    (d.length ≤ 253 → ∀ (hd : Bytes) (c : Half) (f : Bytes),
      hd = [s.cfg.nad, p, BitVec.ofNat 8 d.length] ++ d → c = crc16 hd 0xFFFF#16 →
      f = hd ++ [lowByte (c ^^^ 0xFFFF#16), highByte (c ^^^ 0xFFFF#16)] →
      exec (.frmEnc p d) s = .next { s with
        crc := c, txbuf := f, err := 0#8, einfo := 0#16
        outbox := s.outbox ++ [0#8 :: BitVec.ofNat 8 ((d.length + 5) % 256) :: BitVec.ofNat 8 ((d.length + 5) / 256)
          :: f] })

/-- R103: `FRM.HDR` ignores `b0` and returns the PCB, the declared length and the bytes still to be read. -/
def Obligations.FrmHdrDecodesHeader : Prop :=
  (∀ b0 b1 b2 : Byte, decode [0x21#8, b0, b1, b2] = .ok (.frmHdr b0 b1 b2)) ∧
  ∀ (b0 b1 b2 : Byte) (s : State), exec (.frmHdr b0 b1 b2) s = .next { s with
    err := 0#8, einfo := 0#16
    outbox := s.outbox ++ [[0#8, 4#8, 0#8, b1, b2, BitVec.ofNat 8 ((b2.toNat + 2) % 256),
      BitVec.ofNat 8 ((b2.toNat + 2) / 256)]] }

/-- R105: `FRM.VAL`, its two length tests, its residue test and its result.
What `CRC` keeps and the length errors are the spec's own decisions D11 and D19 (log 18). -/
def Obligations.FrmValValidatesFrame : Prop :=
  (∀ d : Bytes, d.length ≤ 65535 →
    decode (0x22#8 :: BitVec.ofNat 8 (d.length % 256) :: BitVec.ofNat 8 (d.length / 256) :: d) = .ok (.frmVal d)) ∧
  ∀ (f : Bytes) (s : State) (dl : Nat), dl = (f.getD 2 0#8).toNat →
    (f.length < 5 ∨ f.length ≠ dl + 5 → exec (.frmVal f) s = .next { s with
      err := 4#8, einfo := 0#16, phase := .idle, outbox := s.outbox ++ [[4#8, 0#8, 0#8]] }) ∧
    (5 ≤ f.length → f.length = dl + 5 → crc16 f 0xFFFF#16 ≠ 0xF0B8#16 → exec (.frmVal f) s = .next { s with
      crc := crc16 f 0xFFFF#16, err := 3#8, phase := .idle
      einfo := BitVec.ofNat 16 ((f.getD (f.length - 2) 0#8).toNat + 256 * (f.getD (f.length - 1) 0#8).toNat)
      outbox := s.outbox ++ [[3#8, 2#8, 0#8, f.getD (f.length - 2) 0#8, f.getD (f.length - 1) 0#8]] }) ∧
    (5 ≤ f.length → f.length = dl + 5 → crc16 f 0xFFFF#16 = 0xF0B8#16 → exec (.frmVal f) s = .next { s with
      crc := 0xF0B8#16, err := 0#8, einfo := 0#16
      outbox := s.outbox ++ [0#8 :: BitVec.ofNat 8 dl :: 0#8 :: (f.drop 3).take dl] })

/-! ### Sequence operations -/

/-- R121: `SEQ.RST` forces the bit to 0 whatever it was. -/
def Obligations.SeqRstForcesZero : Prop :=
  decode [0x30#8] = .ok .seqRst ∧
  ∀ s : State, exec .seqRst s = .next { s with
    seq := 0#1, err := 0#8, einfo := 0#16, outbox := s.outbox ++ [[0#8, 0#8, 0#8]] }

/-- R122: `SEQ.TGL` flips the bit; two in a row restore it. -/
def Obligations.SeqTglFlips : Prop :=
  decode [0x31#8] = .ok .seqTgl ∧
  (∀ s : State, exec .seqTgl s = .next { s with
    seq := if s.seq = 0#1 then 1#1 else 0#1, err := 0#8, einfo := 0#16
    outbox := s.outbox ++ [[0#8, 0#8, 0#8]] }) ∧
  ∀ s t u : State, exec .seqTgl s = .next t → exec .seqTgl t = .next u → u.seq = s.seq

/-- R124: `SEQ.RD` returns the bit as a byte 0 or 1. -/
def Obligations.SeqRdReturnsBit : Prop :=
  decode [0x32#8] = .ok .seqRd ∧
  ∀ s : State, exec .seqRd s = .next { s with
    err := 0#8, einfo := 0#16
    outbox := s.outbox ++ [[0#8, 1#8, 0#8, if s.seq = 0#1 then 0#8 else 1#8]] }

/-- R123: `SEQ.PCB` builds the information-block PCB of the current bit and the flag `M`; bits 7..1 of its operand must
be zero.
The bit positions are the spec's own decision D6 (log 22). -/
def Obligations.SeqPcbBuildsPcb : Prop :=
  decode [0x33#8, 0x00#8] = .ok (.seqPcb 0x00#8) ∧ decode [0x33#8, 0x01#8] = .ok (.seqPcb 0x01#8) ∧
  ∀ s : State,
    exec (.seqPcb 0x00#8) s = .next { s with
      err := 0#8, einfo := 0#16
      outbox := s.outbox ++ [[0#8, 1#8, 0#8, if s.seq = 0#1 then 0x00#8 else 0x40#8]] } ∧
    exec (.seqPcb 0x01#8) s = .next { s with
      err := 0#8, einfo := 0#16
      outbox := s.outbox ++ [[0#8, 1#8, 0#8, if s.seq = 0#1 then 0x20#8 else 0x60#8]] } ∧
    ∀ m : Byte, 1#8 < m → exec (.seqPcb m) s = .next { s with
      err := 5#8, einfo := 0#16, phase := .idle, outbox := s.outbox ++ [[5#8, 0#8, 0#8]] }

/-! ### The exchange -/

/-- The rows of R143 from `IDLE`, with R133 and R134: the reset value forces `SEQ` first; an over-long payload is
refused without a port call; else the frame is built and `WRITE` is entered.
What `CRC` keeps is the spec's own decision D11 (log 18). -/
def Obligations.XchgStartsExchange : Prop :=
  (∀ (p : Byte) (d : Bytes), d.length ≤ 65535 →
    decode (0x40#8 :: p :: BitVec.ofNat 8 (d.length % 256) :: BitVec.ofNat 8 (d.length / 256) :: d)
      = .ok (.xchg p d)) ∧
  ∀ (p : Byte) (d : Bytes) (s : State),
    (254 ≤ d.length → exec (.xchg p d) s = .next { s with
      seq := if p = 0xCF#8 then 0#1 else s.seq, err := 2#8, einfo := 0#16, phase := .idle
      outbox := s.outbox ++ [[2#8, 0#8, 0#8]] }) ∧
    (d.length ≤ 253 → ∀ (hd : Bytes) (c : Half),
      hd = [s.cfg.nad, p, BitVec.ofNat 8 d.length] ++ d → c = crc16 hd 0xFFFF#16 →
      exec (.xchg p d) s = .next { s with
        seq := if p = 0xCF#8 then 0#1 else s.seq, crc := c, phase := .write, att := 0
        txbuf := hd ++ [lowByte (c ^^^ 0xFFFF#16), highByte (c ^^^ 0xFFFF#16)] })

/-- The rows of R143 from `WRITE`, for every answer of the port.
`ATT` and the wait follow R132 (log 11), the records D21 (log 13). -/
def Obligations.ExchangeWriteRows : Prop :=
  ∀ (s t : State) (a : PortAnswer), s.phase = .write → takeAnswer s = (a, t) →
    (∀ v, a = .ok v → step s = .next { attempted (.write s.txbuf) (.ok []) t with phase := .rdhdr, att := 0 }) ∧
    (∀ e, a = .err e → s.att + 1 < s.cfg.maxAtt.n →
      step s = .next { attempted (.write s.txbuf) (.err e) t with waits := s.waits + 1 }) ∧
    (∀ e, a = .err e → s.att + 1 = s.cfg.maxAtt.n →
      step s = .next { attempted (.write s.txbuf) (.err e) t with
        err := 1#8, einfo := 0#16, phase := .idle
        outbox := s.outbox ++ [1#8 :: BitVec.ofNat 8 (e.report.length % 256)
          :: BitVec.ofNat 8 (e.report.length / 256) :: e.report] })

/-- The rows of R143 from `RDHDR`, for every answer of the port, with the chaining diagnostic of R137.
`ATT` and the wait follow R132 (log 11), the records D8 and D21 (log 13). -/
def Obligations.ExchangeHeaderRows : Prop :=
  ∀ (s t : State) (a : PortAnswer), s.phase = .rdhdr → takeAnswer s = (a, t) →
    (∀ v, a = .ok v → v.length = 3 → step s = .next { attempted (.read 3) (.ok v) t with
      rxhdr := v, phase := .rdbody, att := 0
      diag := (attempted (.read 3) (.ok v) t).diag ++
        (bif s.cfg.sink && s.cfg.chain.has (v.getD 1 0#8) then [.chainSeen (v.getD 1 0#8)] else []) }) ∧
    (∀ v, a = .ok v → v.length ≠ 3 → step s = .next { attempted (.read 3) (.ok v) t with
      err := 4#8, einfo := 0#16, phase := .idle, outbox := s.outbox ++ [[4#8, 0#8, 0#8]] }) ∧
    (∀ e, a = .err e → s.att + 1 < s.cfg.maxAtt.n →
      step s = .next { attempted (.read 3) (.err e) t with waits := s.waits + 1 }) ∧
    (∀ e, a = .err e → s.att + 1 = s.cfg.maxAtt.n →
      step s = .next { attempted (.read 3) (.err e) t with
        err := 1#8, einfo := 0#16, phase := .idle
        outbox := s.outbox ++ [1#8 :: BitVec.ofNat 8 (e.report.length % 256)
          :: BitVec.ofNat 8 (e.report.length / 256) :: e.report] })

/-- The rows of R143 from `RDBODY`, for every answer of the port: validation, the result, and the toggle by the
request's PCB (R138 to R141).
`ATT` and the wait follow R132 (log 11), the records D21 (log 13), what `CRC` keeps D11 (log 18). -/
def Obligations.ExchangeBodyRows : Prop :=
  ∀ (s t : State) (a : PortAnswer) (dl : Nat), s.phase = .rdbody → takeAnswer s = (a, t) →
    dl = (s.rxhdr.getD 2 0#8).toNat →
    (∀ v, a = .ok v → v.length = dl + 2 → crc16 v (crc16 s.rxhdr 0xFFFF#16) = 0xF0B8#16 →
      step s = .next { attempted (.read (dl + 2)) (.ok v) t with
        rxbuf := v, crc := 0xF0B8#16, err := 0#8, einfo := 0#16, phase := .idle
        seq := bif s.cfg.iblock.has (s.txbuf.getD 1 0#8) then s.seq ^^^ 1#1 else s.seq
        outbox := s.outbox ++ [0#8 :: BitVec.ofNat 8 dl :: 0#8 :: v.take dl] }) ∧
    (∀ v, a = .ok v → v.length = dl + 2 → crc16 v (crc16 s.rxhdr 0xFFFF#16) ≠ 0xF0B8#16 →
      step s = .next { attempted (.read (dl + 2)) (.ok v) t with
        rxbuf := v, crc := crc16 v (crc16 s.rxhdr 0xFFFF#16), err := 3#8, phase := .idle
        einfo := BitVec.ofNat 16 ((v.getD dl 0#8).toNat + 256 * (v.getD (dl + 1) 0#8).toNat)
        outbox := s.outbox ++ [[3#8, 2#8, 0#8, v.getD dl 0#8, v.getD (dl + 1) 0#8]] }) ∧
    (∀ v, a = .ok v → v.length ≠ dl + 2 → step s = .next { attempted (.read (dl + 2)) (.ok v) t with
      err := 4#8, einfo := 0#16, phase := .idle, outbox := s.outbox ++ [[4#8, 0#8, 0#8]] }) ∧
    (∀ e, a = .err e → s.att + 1 < s.cfg.maxAtt.n →
      step s = .next { attempted (.read (dl + 2)) (.err e) t with waits := s.waits + 1 }) ∧
    (∀ e, a = .err e → s.att + 1 = s.cfg.maxAtt.n →
      step s = .next { attempted (.read (dl + 2)) (.err e) t with
        err := 1#8, einfo := 0#16, phase := .idle
        outbox := s.outbox ++ [1#8 :: BitVec.ofNat 8 (e.report.length % 256)
          :: BitVec.ofNat 8 (e.report.length / 256) :: e.report] })

/-- The small-step machine of R143 computes the whole operation of R142: from `exec`'s next state it reaches exactly
the whole operation's end state, within `3 * MAXATT` steps.
That the exchange ends assumes that every port call answers (log 6). -/
def Obligations.ExchangeStepsReachWhole : Prop :=
  ∀ (p : Byte) (d : Bytes) (s : State), ∃ t n, exec (.xchg p d) s = .next t ∧ n ≤ 3 * s.cfg.maxAtt.n ∧
    runSteps n t = .next (xchgWhole p d s)

/-- R177 and the final values of R142: what every outcome of an exchange leaves in `SEQ`, `CRC`, `ERR`, `EINFO`, and
its one response, from the bytes the port answered.
What `CRC` keeps is the spec's own decision D11 (log 18), that `RXHDR` and `RXBUF` still hold the bytes received is the
model's choice (log 10). -/
def Obligations.ExchangeFinalState : Prop :=
  ∀ (p : Byte) (d : Bytes) (s t : State) (forced : BitVec 1) (c : Half) (dl : Nat),
    t = xchgWhole p d s → forced = (if p = 0xCF#8 then 0#1 else s.seq) →
    c = crc16 ([s.cfg.nad, p, BitVec.ofNat 8 d.length] ++ d) 0xFFFF#16 → dl = (t.rxhdr.getD 2 0#8).toNat →
    t.phase = .idle ∧ t.cfg = s.cfg ∧ t.inbox = s.inbox ∧ (t.err = 2#8 ↔ 254 ≤ d.length) ∧
    ((t.err = 0#8 ∧ t.einfo = 0#16 ∧ t.crc = 0xF0B8#16 ∧ crc16 t.rxbuf (crc16 t.rxhdr 0xFFFF#16) = 0xF0B8#16 ∧
        t.seq = (bif s.cfg.iblock.has p then forced ^^^ 1#1 else forced) ∧ responseReceived s t ∧
        t.outbox = s.outbox ++ [0#8 :: BitVec.ofNat 8 dl :: 0#8 :: t.rxbuf.take dl]) ∨
      (t.err = 1#8 ∧ t.einfo = 0#16 ∧ t.crc = c ∧ t.seq = forced ∧
        ∃ (e : TErr) (op : PortOp), t.events.getLast? = some (eventOf s.cfg op (.err e)) ∧
          t.outbox = s.outbox ++ [1#8 :: BitVec.ofNat 8 (e.report.length % 256)
            :: BitVec.ofNat 8 (e.report.length / 256) :: e.report]) ∨
      (t.err = 2#8 ∧ t.einfo = 0#16 ∧ t.crc = s.crc ∧ t.seq = forced ∧
        t.outbox = s.outbox ++ [[2#8, 0#8, 0#8]] ∧ t.events = s.events) ∨
      (t.err = 3#8 ∧ t.crc = crc16 t.rxbuf (crc16 t.rxhdr 0xFFFF#16) ∧ t.crc ≠ 0xF0B8#16 ∧ t.seq = forced ∧
        responseReceived s t ∧
        t.einfo = BitVec.ofNat 16 ((t.rxbuf.getD dl 0#8).toNat + 256 * (t.rxbuf.getD (dl + 1) 0#8).toNat) ∧
        t.outbox = s.outbox ++ [[3#8, 2#8, 0#8, t.rxbuf.getD dl 0#8, t.rxbuf.getD (dl + 1) 0#8]]) ∨
      (t.err = 4#8 ∧ t.einfo = 0#16 ∧ t.crc = c ∧ t.seq = forced ∧
        (∃ n v, t.events.getLast? = some (eventOf s.cfg (.read n) (.ok v)) ∧ v.length ≠ n) ∧
        t.outbox = s.outbox ++ [[4#8, 0#8, 0#8]]))

/-- R144: the number and order of the port calls of one exchange, by its outcome, and that it ends.
That the exchange ends assumes that every port call answers (log 6). -/
def Obligations.ExchangeBoundsPortCalls : Prop :=
  ∀ (p : Byte) (d : Bytes) (s t : State), t = xchgWhole p d s →
    (∃ u n, exec (.xchg p d) s = .next u ∧ runSteps n u = .next t) ∧
    ∃ new : List PortEvent, t.events = s.events ++ new ∧ new.length ≤ 3 * s.cfg.maxAtt.n ∧
      (t.err = 2#8 → new = []) ∧
      (t.err = 0#8 → 3 ≤ new.length ∧ ∃ f h b : Bytes, h.length = 3 ∧
        (new.filter fun e => match e.answer with | .ok _ => true | .err _ => false) =
          [eventOf s.cfg (.write f) (.ok []), eventOf s.cfg (.read 3) (.ok h),
            eventOf s.cfg (.read ((h.getD 2 0#8).toNat + 2)) (.ok b)]) ∧
      (t.err = 1#8 → ∃ before last : List PortEvent, new = before ++ last ∧ last.length = s.cfg.maxAtt.n ∧
        (∀ e ∈ last, ∃ x, e.answer = .err x) ∧ (∀ e, before.getLast? = some e → ∃ v, e.answer = .ok v) ∧
        ∃ op, ∀ e ∈ last, e.call.op = op)

/-- A run of `XCHG` to its success in the fewest port calls, whatever the header's first two bytes are: one write, two
reads, the payload returned, the toggle for an information-block request (R135 to R141, R146).
What `CRC` keeps is the spec's own decision D11 (log 18); that `ATT` is 1 afterwards (log 11) and that the buffers keep
the frame, the header and the remainder (log 10) are the model's. -/
def Obligations.ExchangeSucceedsInThreeCalls : Prop :=
  ∀ (p : Byte) (d w h b : Bytes) (rest : List PortAnswer) (s : State) (dl : Nat) (c : Half) (hd f : Bytes),
    d.length ≤ 253 → s.answers = .ok w :: .ok h :: .ok b :: rest → h.length = 3 → dl = (h.getD 2 0#8).toNat →
    b.length = dl + 2 → crc16 b (crc16 h 0xFFFF#16) = 0xF0B8#16 →
    hd = [s.cfg.nad, p, BitVec.ofNat 8 d.length] ++ d → c = crc16 hd 0xFFFF#16 →
    f = hd ++ [lowByte (c ^^^ 0xFFFF#16), highByte (c ^^^ 0xFFFF#16)] →
    ∃ (t : State) (records : List DiagRecord), exec (.xchg p d) s = .next t ∧ (s.cfg.sink = false → records = s.diag) ∧
      runSteps 3 t = .next { s with
        crc := 0xF0B8#16, err := 0#8, einfo := 0#16, phase := .idle, att := 1, txbuf := f, rxhdr := h, rxbuf := b
        seq := bif s.cfg.iblock.has p then (if p = 0xCF#8 then 0#1 else s.seq) ^^^ 1#1
          else if p = 0xCF#8 then 0#1 else s.seq
        events := s.events ++ [eventOf s.cfg (.write f) (.ok []), eventOf s.cfg (.read 3) (.ok h),
          eventOf s.cfg (.read (dl + 2)) (.ok b)]
        diag := records, answers := rest
        outbox := s.outbox ++ [0#8 :: BitVec.ofNat 8 dl :: 0#8 :: b.take dl] }

/-- R132: `k` failures and then success take `k + 1` attempts and `k` waits; a port that always fails takes exactly
`MAXATT` attempts, and its last error is the result. Every attempt makes the same call.
Where the waits stand is the spec's own decision D15 (log 18). -/
def Obligations.RetryCountsAttempts : Prop :=
  (∀ (op : PortOp) (s : State) (es : List TErr) (v : Bytes) (rest : List PortAnswer),
    es.length < s.cfg.maxAtt.n → s.answers = es.map PortAnswer.err ++ .ok v :: rest →
    ∃ records, retry op s = (answerTo op (.ok v), { s with
      att := es.length + 1, answers := rest, waits := s.waits + es.length, diag := records
      events := s.events ++ es.map (fun e => eventOf s.cfg op (.err e))
        ++ [eventOf s.cfg op (answerTo op (.ok v))] })) ∧
  (∀ (op : PortOp) (s : State) (es : List TErr) (last : TErr) (rest : List PortAnswer),
    es.length + 1 = s.cfg.maxAtt.n → s.answers = es.map PortAnswer.err ++ .err last :: rest →
    ∃ records, retry op s = (.err last, { s with
      att := s.cfg.maxAtt.n, answers := rest, waits := s.waits + es.length, diag := records
      events := s.events ++ es.map (fun e => eventOf s.cfg op (.err e)) ++ [eventOf s.cfg op (.err last)] }))

/-- The meanings of the table's PCB rows, the model's choice (log 3): step 1 on 0xCF, step 8 on an information block,
the diagnostic on a chaining PCB, and nothing else changed. -/
def Obligations.PcbRowsActAsExchangeSteps : Prop :=
  ∀ (s : State) (p : Byte),
    exec .pcbReset s = .next { s with seq := 0#1 } ∧
    (s.cfg.iblock.has p = true → exec (.pcbIblock p) s = .next { s with seq := s.seq ^^^ 1#1 }) ∧
    (s.cfg.iblock.has p = false → exec (.pcbIblock p) s = .next s) ∧
    (s.cfg.chain.has p = true → s.cfg.sink = true →
      exec (.pcbChain p) s = .next { s with diag := s.diag ++ [.chainSeen p] }) ∧
    (s.cfg.chain.has p = false ∨ s.cfg.sink = false → exec (.pcbChain p) s = .next s)

/-! ### The CRC's laws -/

/-- R80: the byte step is an exclusive or into bits 7..0 and eight shifts, each with the polynomial when bit 0 is set
before it. -/
def Obligations.CrcByteIsBitSerial : Prop :=
  ∀ (c : Half) (b : Byte), crcByte c b =
    (fun x : Half => if x.toNat % 2 = 1 then BitVec.ofNat 16 (x.toNat / 2) ^^^ 0x8408#16
      else BitVec.ofNat 16 (x.toNat / 2))^[8] (c ^^^ BitVec.ofNat 16 b.toNat)

/-- R82: the laws (a) to (e), with the first sixteen entries of the table. -/
def Obligations.CrcLaws : Prop :=
  (∀ s : Half, crc16 [] s = s) ∧
  (∀ (a b : Bytes) (s : Half), crc16 (a ++ b) s = crc16 b (crc16 a s)) ∧
  (∀ (b : Byte) (s : Half), crc16 [b] s = crcByte s b) ∧
  (∀ (c1 c2 : Half) (b1 b2 : Byte), crcByte (c1 ^^^ c2) (b1 ^^^ b2) = crcByte c1 b1 ^^^ crcByte c2 b2) ∧
  (∀ (d : Bytes) (s : Half), crc16 d s = crc16 d 0#16 ^^^ crc16 (List.replicate d.length 0#8) s) ∧
  (∀ (c : Half) (b : Byte), crcByte c b = crcByte (c ^^^ BitVec.ofNat 16 b.toNat) 0#8) ∧
  (∀ (c : Half) (b : Byte),
    crcByte c b = (c >>> 8) ^^^ crcByte ((c ^^^ BitVec.ofNat 16 b.toNat) &&& 0xFF#16) 0#8) ∧
  (∀ (c : Half) (b : Byte), crcByteByTable c b = crcByte c b) ∧
  (List.range 16).map (fun i => crcByte (BitVec.ofNat 16 i) 0#8) =
    [0x0000#16, 0x1189#16, 0x2312#16, 0x329B#16, 0x4624#16, 0x57AD#16, 0x6536#16, 0x74BF#16,
      0x8C48#16, 0x9DC1#16, 0xAF5A#16, 0xBED3#16, 0xCA6C#16, 0xDBE5#16, 0xE97E#16, 0xF8F7#16]

/-- R84: the residue law for every message and seed; its converse: the byte step is a bijection for each byte, and for
each accumulator exactly one two-byte string leaves the residue. -/
def Obligations.ResidueLaw : Prop :=
  (∀ (m : Bytes) (s c : Half), c = crc16 m s →
    crc16 (m ++ [lowByte (c ^^^ 0xFFFF#16), highByte (c ^^^ 0xFFFF#16)]) s = 0xF0B8#16) ∧
  (∀ b : Byte, Function.Bijective fun c : Half => crcByte c b) ∧
  (∀ (c : Half) (t0 t1 : Byte), crc16 [t0, t1] c = 0xF0B8#16 ↔
    t0 = lowByte (c ^^^ 0xFFFF#16) ∧ t1 = highByte (c ^^^ 0xFFFF#16))

/-- The check of the residue is sound and complete for the frame's own checksum (R84(b), R104). -/
def Obligations.FrameCheckIffChecksum : Prop :=
  ∀ (h b : Bytes), h.length = 3 → 2 ≤ b.length →
    (validate h b = 0xF0B8#16 ↔
      b.drop (b.length - 2) = fcs (h ++ b.take (b.length - 2)))

/-- R107: a correctly checksummed frame changed in one byte, or in two adjacent bytes, is never accepted. -/
def Obligations.AdjacentCorruptionDetected : Prop :=
  (∀ (u v : Bytes) (x x' : Byte), crc16 (u ++ x :: v) 0xFFFF#16 = 0xF0B8#16 → x' ≠ x →
    crc16 (u ++ x' :: v) 0xFFFF#16 ≠ 0xF0B8#16) ∧
  (∀ (u v : Bytes) (x y x' y' : Byte), crc16 (u ++ x :: y :: v) 0xFFFF#16 = 0xF0B8#16 → (x' ≠ x ∨ y' ≠ y) →
    crc16 (u ++ x' :: y' :: v) 0xFFFF#16 ≠ 0xF0B8#16)

/-! ### The codec -/

/-- R106: the encode and decode round trip for payloads of 0 to 253 bytes, with every `NAD` and PCB. -/
def Obligations.EncodeHeaderRoundTrip : Prop :=
  ∀ (nad p : Byte) (d : Bytes), d.length ≤ 253 → ∃ f, encodeFrame nad p d = some f ∧
    headerPcb (f.take 3) = p ∧ headerLen (f.take 3) = d.length ∧ f.length = 3 + d.length + 2 ∧
    (f.drop 3).take d.length = d ∧ validate (f.take 3) (f.drop 3) = 0xF0B8#16

/-- Every frame that `FRM.ENC` returns is accepted by `FRM.VAL`, in any state of any instance, and gives the payload
back (R101, R105).
What `CRC` keeps is the spec's own decision D11 (log 18). -/
def Obligations.EncodedFrameValidates : Prop :=
  ∀ (p : Byte) (d : Bytes) (s s' : State), d.length ≤ 253 → ∃ f lo hi t, exec (.frmEnc p d) s = .next t ∧
    t.outbox = s.outbox ++ [0#8 :: lo :: hi :: f] ∧
    exec (.frmVal f) s' = .next { s' with
      crc := 0xF0B8#16, err := 0#8, einfo := 0#16
      outbox := s'.outbox ++ [0#8 :: BitVec.ofNat 8 d.length :: 0#8 :: d] }

/-! ### The whole machine -/

/-- R120: nothing changes `SEQ` but `SEQ.RST`, `SEQ.TGL`, `SRESET`, `XCHG` with the reset value, and the successful end
of an information-block exchange; a failed exchange does not flip it.
`SEQ.RST`, `SEQ.TGL` and `SRESET` as events are the spec's own decisions (log 18). -/
def Obligations.SequenceBitWriters : Prop :=
  ∀ s t : State, step s = .next t → t.seq ≠ s.seq →
    (s.phase = .idle ∧ ∃ m rest i, s.inbox = m :: rest ∧ decode m = .ok i ∧
      ((i = .seqTgl ∧ t.seq = s.seq ^^^ 1#1) ∨
        (t.seq = 0#1 ∧ (i = .seqRst ∨ i = .sreset ∨ ∃ d, i = .xchg 0xCF#8 d)))) ∨
    (s.phase = .rdbody ∧ t.phase = .idle ∧ t.err = 0#8 ∧ s.cfg.iblock.has (s.txbuf.getD 1 0#8) = true ∧
      t.seq = s.seq ^^^ 1#1)

/-- R213, R177: nothing changes `CRC` but `CRC.SEED`, `CRC.UPD`, `CRC.BLK`, `FRM.ENC`, `FRM.VAL`, `SRESET`, the start
of an exchange, and the validation that ends one, which leaves the CRC of the header held and the remainder just
received; a failed attempt and a wrong byte count leave it.
The register is the spec's own decision D11 (log 18). -/
def Obligations.AccumulatorWriters : Prop :=
  ∀ s t : State, step s = .next t → t.crc ≠ s.crc →
    (s.phase = .rdbody ∧ t.phase = .idle ∧ (t.err = 0#8 ∨ t.err = 3#8) ∧
      t.events = s.events ++ [eventOf s.cfg (.read ((s.rxhdr.getD 2 0#8).toNat + 2)) (.ok t.rxbuf)] ∧
      t.rxbuf.length = (s.rxhdr.getD 2 0#8).toNat + 2 ∧
      t.crc = crc16 t.rxbuf (crc16 s.rxhdr 0xFFFF#16)) ∨
    (s.phase = .idle ∧ ∃ m rest i, s.inbox = m :: rest ∧ decode m = .ok i ∧
      ((∃ v, i = .crcSeed v) ∨ (∃ b, i = .crcUpd b) ∨ (∃ d, i = .crcBlk d) ∨ (∃ p d, i = .frmEnc p d) ∨
        (∃ d, i = .frmVal d) ∨ (∃ p d, i = .xchg p d) ∨ i = .sreset))

/-- R65: every command produces exactly one response, when it completes, and the response is well formed. If the message
the step took is an `RDREG` of a legal register its status is 0 and `ERR` and `EINFO` are left; else its status is the
value of `ERR`.
The spec's own decision D3 (log 18). That an idle step without a command changes nothing is the model's choice, from R45
and R192 (log 16). -/
def Obligations.OneResponsePerCommand : Prop :=
  ∀ s t : State, step s = .next t →
    (s.phase = .idle → s.inbox = [] → t = s) ∧
    (s.phase ≠ .idle ∨ s.inbox ≠ [] →
      (t.phase ≠ .idle → t.outbox = s.outbox) ∧
      (t.phase = .idle → ∃ status lo hi data, t.outbox = s.outbox ++ [status :: lo :: hi :: data] ∧
        data.length = lo.toNat + 256 * hi.toNat ∧
        ((s.phase = .idle ∧ ∃ r rest, r ≤ 3#8 ∧ s.inbox = [0x01#8, r] :: rest) →
          status = 0#8 ∧ t.err = s.err ∧ t.einfo = s.einfo) ∧
        (¬ (s.phase = .idle ∧ ∃ r rest, r ≤ 3#8 ∧ s.inbox = [0x01#8, r] :: rest) → status = t.err)))

/-- R18: no operation and no step changes the configuration.
That `State` carries it is the model's choice (log 8). -/
def Obligations.ConfigurationNeverChanges : Prop :=
  (∀ (i : Instr) (s t : State), exec i s = .next t → t.cfg = s.cfg) ∧ ∀ s t : State, step s = .next t → t.cfg = s.cfg

/-- Only the phases of an exchange touch the port, one call a step, with the instance's own bus and address and no
register select; and no command is taken meanwhile (R31, R33, R34, R43, R214).
That `SRESET` empties the event history is the model's reading (log 12). -/
def Obligations.PortOnlyDuringExchange : Prop :=
  (∀ (i : Instr) (s t : State), exec i s = .next t →
    t.answers = s.answers ∧ t.waits = s.waits ∧ t.inbox = s.inbox ∧ (i ≠ .sreset → t.events = s.events)) ∧
  (∀ s t : State, step s = .next t → s.phase ≠ .idle →
    t.inbox = s.inbox ∧ ∃ e, t.events = s.events ++ [e] ∧ e.call.bus = s.cfg.busId ∧ e.call.address = s.cfg.devAddr ∧
      e.call.register = none)

/-- R190: the diagnostic sink is inert. Two machines that differ only in whether a sink is attached, and in what it has
received, take the same step in everything else; without a sink nothing is recorded.
The records are the spec's own decision D21 (log 13). -/
def Obligations.SinkIsInert : Prop :=
  ∀ (s s' t t' : State) (b : Bool) (records : List DiagRecord),
    s' = { s with cfg := { s.cfg with sink := b }, diag := records } → step s = .next t → step s' = .next t' →
    t' = { t with cfg := { t.cfg with sink := b }, diag := t'.diag } ∧ (b = false → t'.diag = records)

/-- R17: what the hidden buffers and `ATT` hold between operations is visible to no later command, nor to a whole
exchange.
That the model keeps the buffers is its own choice (log 10). -/
def Obligations.HiddenBuffersInvisible : Prop :=
  ∀ (s s' : State) (a : Nat) (x h b : Bytes), s' = { s with att := a, txbuf := x, rxhdr := h, rxbuf := b } →
    (s.phase = .idle → ∀ t t' : State, step s = .next t → step s' = .next t' →
      t' = { t with att := t'.att, txbuf := t'.txbuf, rxhdr := t'.rxhdr, rxbuf := t'.rxbuf } ∧
      (t.phase ≠ .idle → t'.att = t.att ∧ t'.txbuf = t.txbuf)) ∧
    ∀ (p : Byte) (d : Bytes), visible (xchgWhole p d s') = visible (xchgWhole p d s)

/-- R64: a message is illegal exactly in the cases (a) to (e); it then ends with `IllegalCommand` and no other change,
and no port call.
The spec's own decision D16 (log 18). -/
def Obligations.IllegalMessagesRefused : Prop :=
  (∀ m : Bytes, (∃ e, decode m = .error e) ↔
    ¬ ∃ op ops, m = op :: ops ∧
      ((op ∈ [0x00#8, 0x0F#8, 0x13#8, 0x14#8, 0x15#8, 0x30#8, 0x31#8, 0x32#8] ∧ ops = []) ∨
        (op = 0x11#8 ∧ ops.length = 1) ∨
        (op = 0x01#8 ∧ ∃ r : Byte, r.toNat ≤ 3 ∧ ops = [r]) ∨
        (op = 0x33#8 ∧ ∃ f : Byte, f.toNat ≤ 1 ∧ ops = [f]) ∨
        (op = 0x10#8 ∧ ops.length = 2) ∨
        (op = 0x21#8 ∧ ops.length = 3) ∨
        (op ∈ [0x12#8, 0x22#8] ∧ ∃ lo hi d, ops = lo :: hi :: d ∧ d.length = lo.toNat + 256 * hi.toNat) ∨
        (op ∈ [0x20#8, 0x40#8] ∧ ∃ p lo hi d, ops = p :: lo :: hi :: d ∧
          d.length = lo.toNat + 256 * hi.toNat))) ∧
  ∀ (s : State) (m : Bytes) (rest : List Bytes) (e : DecodeError), s.phase = .idle → s.inbox = m :: rest →
    decode m = .error e → step s = .next { s with
      inbox := rest, err := 5#8, einfo := 0#16, outbox := s.outbox ++ [[5#8, 0#8, 0#8]] }

/-! ### Encoding -/

/-- Decoding what a well-formed operation is encoded as gives it back (all 17 operations, every operand). -/
def Obligations.DecodeOfEncode : Prop :=
  ∀ i : Instr, i.wf = true → i.isCommand = true → decode (encode i) = .ok i

/-- Each legal message has one meaning: it is the encoding of the well-formed operation it decodes to. -/
def Obligations.EncodeOfDecode : Prop :=
  ∀ (m : Bytes) (i : Instr), decode m = .ok i → encode i = m ∧ i.wf = true ∧ i.isCommand = true

/-- The default configuration functions are the PCB rows of the table (R55, R57), and the reset value is neither.
The classes are the spec's own decisions D6 and D8 (log 22). -/
def Obligations.DefaultPcbClasses : Prop :=
  (∀ p : Byte, PcbSet.defaultIblock.has p = true ↔ p.toNat < 128) ∧
  (∀ p : Byte, PcbSet.defaultChain.has p = true ↔ p.toNat < 128 ∧ p.toNat / 32 % 2 = 1) ∧
  (∀ p : Byte, decodePcb .step8 p = (if PcbSet.defaultIblock.has p then some (.pcbIblock p) else none)) ∧
  (∀ p : Byte, decodePcb .response p = (if PcbSet.defaultChain.has p then some (.pcbChain p) else none)) ∧
  (∀ p : Byte, decodePcb .step1 p = (if p.toNat = 207 then some .pcbReset else none)) ∧
  PcbSet.defaultIblock.has 0xCF#8 = false

/-- Messages spelled out in the spec's text decode to the operations they stand for. -/
def Obligations.SpelledMessagesDecode : Prop :=
  decode [0x10#8, 0xFF#8, 0xFF#8] = .ok (.crcSeed 0xFFFF#16) ∧
  decode [0x10#8, 0xB8#8, 0xF0#8] = .ok (.crcSeed 0xF0B8#16) ∧
  decode [0x12#8, 0x04#8, 0x00#8, 0x31#8, 0x32#8, 0x33#8, 0x34#8] =
    .ok (.crcBlk [0x31#8, 0x32#8, 0x33#8, 0x34#8]) ∧
  decode [0x20#8, 0x00#8, 0x05#8, 0x00#8, 0x00#8, 0xA4#8, 0x04#8, 0x00#8, 0x00#8] =
    .ok (.frmEnc 0x00#8 [0x00#8, 0xA4#8, 0x04#8, 0x00#8, 0x00#8]) ∧
  decode [0x21#8, 0xA5#8, 0x00#8, 0x02#8] = .ok (.frmHdr 0xA5#8 0x00#8 0x02#8) ∧
  decode [0x33#8, 0x00#8] = .ok (.seqPcb 0x00#8) ∧
  decode [0x01#8, 0x03#8] = .ok (.rdreg 0x03#8) ∧
  decode [0x40#8, 0xCF#8, 0x00#8, 0x00#8] = .ok pseudoResetx

/-- A step in `IDLE` takes the first command message and runs the operation it decodes to, and nothing else. -/
def Obligations.StepRunsDecodedCommand : Prop :=
  ∀ (s : State) (m : Bytes) (rest : List Bytes) (i : Instr), s.phase = .idle → s.inbox = m :: rest →
    decode m = .ok i → step s = exec i { s with inbox := rest }

/-- The next step after an instruction is placed runs exactly it; placing it is the model's own (log 2). -/
def Obligations.PlacedInstructionRunsNext : Prop :=
  ∀ (s : State) (nbits w : Nat) (i : Instr), decodeTableWord nbits w = some i →
    step (s.withFetchWord nbits w) = exec i { s with phase := .idle }

/-- The machine never stops: every instruction and every step answers a next state (R65).
That a port call always answers is assumed (log 6); that an idle step without a command answers is the model's (log 16). -/
def Obligations.EveryStepAnswersNext : Prop :=
  (∀ (i : Instr) (s : State), ∃ t, exec i s = .next t) ∧ ∀ s : State, ∃ t, step s = .next t

/-- R68: the pseudo-operations `CRC16` and `FCS16`, on data of any length, are sequences of encodable operations with
exactly the source's contracts.
The cut into pieces of 65535 bytes is the spec's own decision D31 (log 18). -/
def Obligations.PseudoCrcContracts : Prop :=
  ∀ (d : Bytes) (seed : Half) (s : State),
    (∀ i ∈ pseudoCrc16 d seed, i.wf = true ∧ i.isCommand = true) ∧
    (∀ i ∈ pseudoFcs16 d, i.wf = true ∧ i.isCommand = true) ∧
    (∃ k, execAll (pseudoCrc16 d seed) s = .next { s with
      crc := crc16 d seed, err := 0#8, einfo := 0#16
      outbox := s.outbox ++ List.replicate k [0#8, 0#8, 0#8] ++
        [[0#8, 2#8, 0#8, lowByte (crc16 d seed), highByte (crc16 d seed)]] }) ∧
    (∃ k, execAll (pseudoFcs16 d) s = .next { s with
      crc := crc16 d 0xFFFF#16, err := 0#8, einfo := 0#16
      outbox := s.outbox ++ List.replicate k [0#8, 0#8, 0#8] ++ [0#8 :: 2#8 :: 0#8 :: fcs d] })

/-- R68: the pseudo-operation `IXCHG` is `SEQ.PCB 0` and then `XCHG` with the PCB that the first one returned: an
information block with the current sequence bit and no chaining, which the frame carries. It runs as that exchange does,
and on success it flips the bit exactly when that PCB counts as an information block.
The spec's own decision D29 (log 18), the bit positions its decision D6 (log 22). That the exchange ends assumes that every
port call answers (log 6). -/
def Obligations.IxchgSendsCurrentBit : Prop :=
  ∀ (payload : Bytes) (s s1 : State) (p : Byte), p = (if s.seq = 0#1 then 0x00#8 else 0x40#8) →
    s1 = { s with err := 0#8, einfo := 0#16, outbox := s.outbox ++ [[0#8, 1#8, 0#8, p]] } →
    (payload.length ≤ 65535 → ∀ op ∈ pseudoIxchgOps payload, ∀ response, (op response).wf = true ∧
      (op response).isCommand = true) ∧
    exec pseudoIxchgPcb s = .next s1 ∧
    execIxchg payload s = exec (.xchg p payload) s1 ∧
    (∃ t n, execIxchg payload s = .next t ∧ n ≤ 3 * s.cfg.maxAtt.n ∧ runSteps n t = .next (xchgWhole p payload s1) ∧
      (payload.length ≤ 253 → t.txbuf.getD 1 0#8 = p)) ∧
    ((xchgWhole p payload s1).err = 0#8 →
      (xchgWhole p payload s1).seq = bif s.cfg.iblock.has p then s.seq ^^^ 1#1 else s.seq) ∧
    ((xchgWhole p payload s1).err ≠ 0#8 → (xchgWhole p payload s1).seq = s.seq)

/-- R68: the pseudo-operation `RESETX` is `XCHG` with the reset value and no payload: the bit is forced to 0 and the frame
of the reset value is sent. The empty payload is the spec's own choice (log 18). -/
def Obligations.ResetxForcesBit : Prop :=
  ∀ (s : State) (c : Half), c = crc16 [s.cfg.nad, 0xCF#8, 0x00#8] 0xFFFF#16 →
    exec pseudoResetx s = .next { s with
      seq := 0#1, crc := c, phase := .write, att := 0
      txbuf := [s.cfg.nad, 0xCF#8, 0x00#8, lowByte (c ^^^ 0xFFFF#16), highByte (c ^^^ 0xFFFF#16)] }
end

