-- ==== Sys2Proof/Laws/Bytes.lean ====
section
/-! SUPPORT. Byte order: the bytes of a 16-bit value and back, as bits (Machine/Operands.lean) and as numbers
(Safety.lean). -/

namespace Sys2Proof.Machine

theorem lo8_eq_lowByte (v : Half) : lo8 v = lowByte v := by
  apply BitVec.eq_of_toNat_eq
  simp [lo8, lowByte]

theorem hi8_eq_highByte (v : Half) : hi8 v = highByte v := by
  apply BitVec.eq_of_toNat_eq
  simp [hi8, highByte, Nat.shiftRight_eq_div_pow]

theorem le16_eq_lowByte_highByte (v : Half) : le16 v = [lowByte v, highByte v] := by
  simp [le16, lo8_eq_lowByte, hi8_eq_highByte]

/-- A length field (20_memory.md R41). -/
theorem le16_ofNat {n : Nat} (h : n ≤ 65535) :
    le16 (BitVec.ofNat 16 n) = [BitVec.ofNat 8 (n % 256), BitVec.ofNat 8 (n / 256)] := by
  have hn : n % 65536 = n := Nat.mod_eq_of_lt (by omega)
  simp [le16_eq_lowByte_highByte, lowByte, highByte, hn]

theorem fromLe16_toNat (lo hi : Byte) : (fromLe16 lo hi).toNat = lo.toNat + 256 * hi.toNat := by
  have h : (fromLe16 lo hi).toNat = hi.toNat <<< 8 ||| lo.toNat := BitVec.toNat_append hi lo
  rw [h, Nat.shiftLeft_eq, Nat.mul_comm, ← Nat.two_pow_add_eq_or_of_lt lo.isLt]
  omega

theorem fromLe16_eq_ofNat (lo hi : Byte) : fromLe16 lo hi = BitVec.ofNat 16 (lo.toNat + 256 * hi.toNat) := by
  rw [← fromLe16_toNat, BitVec.ofNat_toNat, BitVec.setWidth_eq]

/-- The bytes of a 16-bit value, read back (20_memory.md R41). -/
theorem fromLe16_lo8_hi8 (v : Half) : fromLe16 (lo8 v) (hi8 v) = v := by
  apply BitVec.eq_of_toNat_eq
  have := v.isLt
  simp [fromLe16_toNat, lo8_eq_lowByte, hi8_eq_highByte, lowByte, highByte]
  omega

end Sys2Proof.Machine
end

