-- ==== Sys2Proof/Laws/State.lean ====
section
/-! SUPPORT. Every field after every shared update, so that no proof unfolds a record update. -/

namespace Sys2Proof.Machine

/-! ### `respond` -/

@[simp] theorem respond_cfg (c : Byte) (d : Bytes) (s : State) : (respond c d s).cfg = s.cfg := rfl
@[simp] theorem respond_crc (c : Byte) (d : Bytes) (s : State) : (respond c d s).crc = s.crc := rfl
@[simp] theorem respond_seq (c : Byte) (d : Bytes) (s : State) : (respond c d s).seq = s.seq := rfl
@[simp] theorem respond_err (c : Byte) (d : Bytes) (s : State) : (respond c d s).err = s.err := rfl
@[simp] theorem respond_einfo (c : Byte) (d : Bytes) (s : State) : (respond c d s).einfo = s.einfo := rfl
@[simp] theorem respond_phase (c : Byte) (d : Bytes) (s : State) : (respond c d s).phase = s.phase := rfl
@[simp] theorem respond_att (c : Byte) (d : Bytes) (s : State) : (respond c d s).att = s.att := rfl
@[simp] theorem respond_txbuf (c : Byte) (d : Bytes) (s : State) : (respond c d s).txbuf = s.txbuf := rfl
@[simp] theorem respond_rxhdr (c : Byte) (d : Bytes) (s : State) : (respond c d s).rxhdr = s.rxhdr := rfl
@[simp] theorem respond_rxbuf (c : Byte) (d : Bytes) (s : State) : (respond c d s).rxbuf = s.rxbuf := rfl
@[simp] theorem respond_events (c : Byte) (d : Bytes) (s : State) : (respond c d s).events = s.events := rfl
@[simp] theorem respond_diag (c : Byte) (d : Bytes) (s : State) : (respond c d s).diag = s.diag := rfl
@[simp] theorem respond_inbox (c : Byte) (d : Bytes) (s : State) : (respond c d s).inbox = s.inbox := rfl
@[simp] theorem respond_outbox (c : Byte) (d : Bytes) (s : State) :
    (respond c d s).outbox = s.outbox ++ [responseMessage c d] := rfl
@[simp] theorem respond_answers (c : Byte) (d : Bytes) (s : State) : (respond c d s).answers = s.answers := rfl
@[simp] theorem respond_draws (c : Byte) (d : Bytes) (s : State) : (respond c d s).draws = s.draws := rfl
@[simp] theorem respond_waits (c : Byte) (d : Bytes) (s : State) : (respond c d s).waits = s.waits := rfl

/-! ### `complete` -/

@[simp] theorem complete_cfg (d : Bytes) (s : State) : (complete d s).cfg = s.cfg := rfl
@[simp] theorem complete_crc (d : Bytes) (s : State) : (complete d s).crc = s.crc := rfl
@[simp] theorem complete_seq (d : Bytes) (s : State) : (complete d s).seq = s.seq := rfl
@[simp] theorem complete_err (d : Bytes) (s : State) : (complete d s).err = 0#8 := rfl
@[simp] theorem complete_einfo (d : Bytes) (s : State) : (complete d s).einfo = 0#16 := rfl
@[simp] theorem complete_phase (d : Bytes) (s : State) : (complete d s).phase = s.phase := rfl
@[simp] theorem complete_att (d : Bytes) (s : State) : (complete d s).att = s.att := rfl
@[simp] theorem complete_txbuf (d : Bytes) (s : State) : (complete d s).txbuf = s.txbuf := rfl
@[simp] theorem complete_rxhdr (d : Bytes) (s : State) : (complete d s).rxhdr = s.rxhdr := rfl
@[simp] theorem complete_rxbuf (d : Bytes) (s : State) : (complete d s).rxbuf = s.rxbuf := rfl
@[simp] theorem complete_events (d : Bytes) (s : State) : (complete d s).events = s.events := rfl
@[simp] theorem complete_diag (d : Bytes) (s : State) : (complete d s).diag = s.diag := rfl
@[simp] theorem complete_inbox (d : Bytes) (s : State) : (complete d s).inbox = s.inbox := rfl
@[simp] theorem complete_outbox (d : Bytes) (s : State) :
    (complete d s).outbox = s.outbox ++ [responseMessage 0#8 d] := rfl
@[simp] theorem complete_answers (d : Bytes) (s : State) : (complete d s).answers = s.answers := rfl
@[simp] theorem complete_draws (d : Bytes) (s : State) : (complete d s).draws = s.draws := rfl
@[simp] theorem complete_waits (d : Bytes) (s : State) : (complete d s).waits = s.waits := rfl

/-! ### `raise` -/

@[simp] theorem raise_cfg (f : Failure) (s : State) : (raise f s).cfg = s.cfg := rfl
@[simp] theorem raise_crc (f : Failure) (s : State) : (raise f s).crc = s.crc := rfl
@[simp] theorem raise_seq (f : Failure) (s : State) : (raise f s).seq = s.seq := rfl
@[simp] theorem raise_err (f : Failure) (s : State) : (raise f s).err = failureCode f := rfl
@[simp] theorem raise_einfo (f : Failure) (s : State) : (raise f s).einfo = failureInfo f := rfl
@[simp] theorem raise_phase (f : Failure) (s : State) : (raise f s).phase = .idle := rfl
@[simp] theorem raise_att (f : Failure) (s : State) : (raise f s).att = s.att := rfl
@[simp] theorem raise_txbuf (f : Failure) (s : State) : (raise f s).txbuf = s.txbuf := rfl
@[simp] theorem raise_rxhdr (f : Failure) (s : State) : (raise f s).rxhdr = s.rxhdr := rfl
@[simp] theorem raise_rxbuf (f : Failure) (s : State) : (raise f s).rxbuf = s.rxbuf := rfl
@[simp] theorem raise_events (f : Failure) (s : State) : (raise f s).events = s.events := rfl
@[simp] theorem raise_diag (f : Failure) (s : State) : (raise f s).diag = s.diag := rfl
@[simp] theorem raise_inbox (f : Failure) (s : State) : (raise f s).inbox = s.inbox := rfl
@[simp] theorem raise_outbox (f : Failure) (s : State) :
    (raise f s).outbox = s.outbox ++ [responseMessage (failureCode f) (failureData f)] := rfl
@[simp] theorem raise_answers (f : Failure) (s : State) : (raise f s).answers = s.answers := rfl
@[simp] theorem raise_draws (f : Failure) (s : State) : (raise f s).draws = s.draws := rfl
@[simp] theorem raise_waits (f : Failure) (s : State) : (raise f s).waits = s.waits := rfl

/-! ### `setCrc` -/

@[simp] theorem setCrc_cfg (c : Half) (s : State) : (setCrc c s).cfg = s.cfg := rfl
@[simp] theorem setCrc_crc (c : Half) (s : State) : (setCrc c s).crc = c := rfl
@[simp] theorem setCrc_seq (c : Half) (s : State) : (setCrc c s).seq = s.seq := rfl
@[simp] theorem setCrc_err (c : Half) (s : State) : (setCrc c s).err = s.err := rfl
@[simp] theorem setCrc_einfo (c : Half) (s : State) : (setCrc c s).einfo = s.einfo := rfl
@[simp] theorem setCrc_phase (c : Half) (s : State) : (setCrc c s).phase = s.phase := rfl
@[simp] theorem setCrc_att (c : Half) (s : State) : (setCrc c s).att = s.att := rfl
@[simp] theorem setCrc_txbuf (c : Half) (s : State) : (setCrc c s).txbuf = s.txbuf := rfl
@[simp] theorem setCrc_rxhdr (c : Half) (s : State) : (setCrc c s).rxhdr = s.rxhdr := rfl
@[simp] theorem setCrc_rxbuf (c : Half) (s : State) : (setCrc c s).rxbuf = s.rxbuf := rfl
@[simp] theorem setCrc_events (c : Half) (s : State) : (setCrc c s).events = s.events := rfl
@[simp] theorem setCrc_diag (c : Half) (s : State) : (setCrc c s).diag = s.diag := rfl
@[simp] theorem setCrc_inbox (c : Half) (s : State) : (setCrc c s).inbox = s.inbox := rfl
@[simp] theorem setCrc_outbox (c : Half) (s : State) : (setCrc c s).outbox = s.outbox := rfl
@[simp] theorem setCrc_answers (c : Half) (s : State) : (setCrc c s).answers = s.answers := rfl
@[simp] theorem setCrc_draws (c : Half) (s : State) : (setCrc c s).draws = s.draws := rfl
@[simp] theorem setCrc_waits (c : Half) (s : State) : (setCrc c s).waits = s.waits := rfl

/-! ### `holdFrame` -/

@[simp] theorem holdFrame_cfg (c : Half) (f : Bytes) (s : State) : (holdFrame c f s).cfg = s.cfg := rfl
@[simp] theorem holdFrame_crc (c : Half) (f : Bytes) (s : State) : (holdFrame c f s).crc = c := rfl
@[simp] theorem holdFrame_seq (c : Half) (f : Bytes) (s : State) : (holdFrame c f s).seq = s.seq := rfl
@[simp] theorem holdFrame_err (c : Half) (f : Bytes) (s : State) : (holdFrame c f s).err = s.err := rfl
@[simp] theorem holdFrame_einfo (c : Half) (f : Bytes) (s : State) : (holdFrame c f s).einfo = s.einfo := rfl
@[simp] theorem holdFrame_phase (c : Half) (f : Bytes) (s : State) : (holdFrame c f s).phase = s.phase := rfl
@[simp] theorem holdFrame_att (c : Half) (f : Bytes) (s : State) : (holdFrame c f s).att = s.att := rfl
@[simp] theorem holdFrame_txbuf (c : Half) (f : Bytes) (s : State) : (holdFrame c f s).txbuf = f := rfl
@[simp] theorem holdFrame_rxhdr (c : Half) (f : Bytes) (s : State) : (holdFrame c f s).rxhdr = s.rxhdr := rfl
@[simp] theorem holdFrame_rxbuf (c : Half) (f : Bytes) (s : State) : (holdFrame c f s).rxbuf = s.rxbuf := rfl
@[simp] theorem holdFrame_events (c : Half) (f : Bytes) (s : State) : (holdFrame c f s).events = s.events := rfl
@[simp] theorem holdFrame_diag (c : Half) (f : Bytes) (s : State) : (holdFrame c f s).diag = s.diag := rfl
@[simp] theorem holdFrame_inbox (c : Half) (f : Bytes) (s : State) : (holdFrame c f s).inbox = s.inbox := rfl
@[simp] theorem holdFrame_outbox (c : Half) (f : Bytes) (s : State) : (holdFrame c f s).outbox = s.outbox := rfl
@[simp] theorem holdFrame_answers (c : Half) (f : Bytes) (s : State) : (holdFrame c f s).answers = s.answers := rfl
@[simp] theorem holdFrame_draws (c : Half) (f : Bytes) (s : State) : (holdFrame c f s).draws = s.draws := rfl
@[simp] theorem holdFrame_waits (c : Half) (f : Bytes) (s : State) : (holdFrame c f s).waits = s.waits := rfl

/-! ### `holdHeader` -/

@[simp] theorem holdHeader_cfg (h : Bytes) (s : State) : (holdHeader h s).cfg = s.cfg := rfl
@[simp] theorem holdHeader_crc (h : Bytes) (s : State) : (holdHeader h s).crc = s.crc := rfl
@[simp] theorem holdHeader_seq (h : Bytes) (s : State) : (holdHeader h s).seq = s.seq := rfl
@[simp] theorem holdHeader_err (h : Bytes) (s : State) : (holdHeader h s).err = s.err := rfl
@[simp] theorem holdHeader_einfo (h : Bytes) (s : State) : (holdHeader h s).einfo = s.einfo := rfl
@[simp] theorem holdHeader_phase (h : Bytes) (s : State) : (holdHeader h s).phase = s.phase := rfl
@[simp] theorem holdHeader_att (h : Bytes) (s : State) : (holdHeader h s).att = s.att := rfl
@[simp] theorem holdHeader_txbuf (h : Bytes) (s : State) : (holdHeader h s).txbuf = s.txbuf := rfl
@[simp] theorem holdHeader_rxhdr (h : Bytes) (s : State) : (holdHeader h s).rxhdr = h := rfl
@[simp] theorem holdHeader_rxbuf (h : Bytes) (s : State) : (holdHeader h s).rxbuf = s.rxbuf := rfl
@[simp] theorem holdHeader_events (h : Bytes) (s : State) : (holdHeader h s).events = s.events := rfl
@[simp] theorem holdHeader_diag (h : Bytes) (s : State) : (holdHeader h s).diag = s.diag := rfl
@[simp] theorem holdHeader_inbox (h : Bytes) (s : State) : (holdHeader h s).inbox = s.inbox := rfl
@[simp] theorem holdHeader_outbox (h : Bytes) (s : State) : (holdHeader h s).outbox = s.outbox := rfl
@[simp] theorem holdHeader_answers (h : Bytes) (s : State) : (holdHeader h s).answers = s.answers := rfl
@[simp] theorem holdHeader_draws (h : Bytes) (s : State) : (holdHeader h s).draws = s.draws := rfl
@[simp] theorem holdHeader_waits (h : Bytes) (s : State) : (holdHeader h s).waits = s.waits := rfl

/-! ### `holdBody` -/

@[simp] theorem holdBody_cfg (b : Bytes) (s : State) : (holdBody b s).cfg = s.cfg := rfl
@[simp] theorem holdBody_crc (b : Bytes) (s : State) : (holdBody b s).crc = s.crc := rfl
@[simp] theorem holdBody_seq (b : Bytes) (s : State) : (holdBody b s).seq = s.seq := rfl
@[simp] theorem holdBody_err (b : Bytes) (s : State) : (holdBody b s).err = s.err := rfl
@[simp] theorem holdBody_einfo (b : Bytes) (s : State) : (holdBody b s).einfo = s.einfo := rfl
@[simp] theorem holdBody_phase (b : Bytes) (s : State) : (holdBody b s).phase = s.phase := rfl
@[simp] theorem holdBody_att (b : Bytes) (s : State) : (holdBody b s).att = s.att := rfl
@[simp] theorem holdBody_txbuf (b : Bytes) (s : State) : (holdBody b s).txbuf = s.txbuf := rfl
@[simp] theorem holdBody_rxhdr (b : Bytes) (s : State) : (holdBody b s).rxhdr = s.rxhdr := rfl
@[simp] theorem holdBody_rxbuf (b : Bytes) (s : State) : (holdBody b s).rxbuf = b := rfl
@[simp] theorem holdBody_events (b : Bytes) (s : State) : (holdBody b s).events = s.events := rfl
@[simp] theorem holdBody_diag (b : Bytes) (s : State) : (holdBody b s).diag = s.diag := rfl
@[simp] theorem holdBody_inbox (b : Bytes) (s : State) : (holdBody b s).inbox = s.inbox := rfl
@[simp] theorem holdBody_outbox (b : Bytes) (s : State) : (holdBody b s).outbox = s.outbox := rfl
@[simp] theorem holdBody_answers (b : Bytes) (s : State) : (holdBody b s).answers = s.answers := rfl
@[simp] theorem holdBody_draws (b : Bytes) (s : State) : (holdBody b s).draws = s.draws := rfl
@[simp] theorem holdBody_waits (b : Bytes) (s : State) : (holdBody b s).waits = s.waits := rfl

/-! ### `setPhase` -/

@[simp] theorem setPhase_cfg (p : Phase) (s : State) : (setPhase p s).cfg = s.cfg := rfl
@[simp] theorem setPhase_crc (p : Phase) (s : State) : (setPhase p s).crc = s.crc := rfl
@[simp] theorem setPhase_seq (p : Phase) (s : State) : (setPhase p s).seq = s.seq := rfl
@[simp] theorem setPhase_err (p : Phase) (s : State) : (setPhase p s).err = s.err := rfl
@[simp] theorem setPhase_einfo (p : Phase) (s : State) : (setPhase p s).einfo = s.einfo := rfl
@[simp] theorem setPhase_phase (p : Phase) (s : State) : (setPhase p s).phase = p := rfl
@[simp] theorem setPhase_att (p : Phase) (s : State) : (setPhase p s).att = s.att := rfl
@[simp] theorem setPhase_txbuf (p : Phase) (s : State) : (setPhase p s).txbuf = s.txbuf := rfl
@[simp] theorem setPhase_rxhdr (p : Phase) (s : State) : (setPhase p s).rxhdr = s.rxhdr := rfl
@[simp] theorem setPhase_rxbuf (p : Phase) (s : State) : (setPhase p s).rxbuf = s.rxbuf := rfl
@[simp] theorem setPhase_events (p : Phase) (s : State) : (setPhase p s).events = s.events := rfl
@[simp] theorem setPhase_diag (p : Phase) (s : State) : (setPhase p s).diag = s.diag := rfl
@[simp] theorem setPhase_inbox (p : Phase) (s : State) : (setPhase p s).inbox = s.inbox := rfl
@[simp] theorem setPhase_outbox (p : Phase) (s : State) : (setPhase p s).outbox = s.outbox := rfl
@[simp] theorem setPhase_answers (p : Phase) (s : State) : (setPhase p s).answers = s.answers := rfl
@[simp] theorem setPhase_draws (p : Phase) (s : State) : (setPhase p s).draws = s.draws := rfl
@[simp] theorem setPhase_waits (p : Phase) (s : State) : (setPhase p s).waits = s.waits := rfl

/-! ### `clearAtt` -/

@[simp] theorem clearAtt_cfg (s : State) : (clearAtt s).cfg = s.cfg := rfl
@[simp] theorem clearAtt_crc (s : State) : (clearAtt s).crc = s.crc := rfl
@[simp] theorem clearAtt_seq (s : State) : (clearAtt s).seq = s.seq := rfl
@[simp] theorem clearAtt_err (s : State) : (clearAtt s).err = s.err := rfl
@[simp] theorem clearAtt_einfo (s : State) : (clearAtt s).einfo = s.einfo := rfl
@[simp] theorem clearAtt_phase (s : State) : (clearAtt s).phase = s.phase := rfl
@[simp] theorem clearAtt_att (s : State) : (clearAtt s).att = 0 := rfl
@[simp] theorem clearAtt_txbuf (s : State) : (clearAtt s).txbuf = s.txbuf := rfl
@[simp] theorem clearAtt_rxhdr (s : State) : (clearAtt s).rxhdr = s.rxhdr := rfl
@[simp] theorem clearAtt_rxbuf (s : State) : (clearAtt s).rxbuf = s.rxbuf := rfl
@[simp] theorem clearAtt_events (s : State) : (clearAtt s).events = s.events := rfl
@[simp] theorem clearAtt_diag (s : State) : (clearAtt s).diag = s.diag := rfl
@[simp] theorem clearAtt_inbox (s : State) : (clearAtt s).inbox = s.inbox := rfl
@[simp] theorem clearAtt_outbox (s : State) : (clearAtt s).outbox = s.outbox := rfl
@[simp] theorem clearAtt_answers (s : State) : (clearAtt s).answers = s.answers := rfl
@[simp] theorem clearAtt_draws (s : State) : (clearAtt s).draws = s.draws := rfl
@[simp] theorem clearAtt_waits (s : State) : (clearAtt s).waits = s.waits := rfl

/-! ### `dropCommand` -/

@[simp] theorem dropCommand_cfg (rest : List Bytes) (s : State) : (dropCommand rest s).cfg = s.cfg := rfl
@[simp] theorem dropCommand_crc (rest : List Bytes) (s : State) : (dropCommand rest s).crc = s.crc := rfl
@[simp] theorem dropCommand_seq (rest : List Bytes) (s : State) : (dropCommand rest s).seq = s.seq := rfl
@[simp] theorem dropCommand_err (rest : List Bytes) (s : State) : (dropCommand rest s).err = s.err := rfl
@[simp] theorem dropCommand_einfo (rest : List Bytes) (s : State) : (dropCommand rest s).einfo = s.einfo := rfl
@[simp] theorem dropCommand_phase (rest : List Bytes) (s : State) : (dropCommand rest s).phase = s.phase := rfl
@[simp] theorem dropCommand_att (rest : List Bytes) (s : State) : (dropCommand rest s).att = s.att := rfl
@[simp] theorem dropCommand_txbuf (rest : List Bytes) (s : State) : (dropCommand rest s).txbuf = s.txbuf := rfl
@[simp] theorem dropCommand_rxhdr (rest : List Bytes) (s : State) : (dropCommand rest s).rxhdr = s.rxhdr := rfl
@[simp] theorem dropCommand_rxbuf (rest : List Bytes) (s : State) : (dropCommand rest s).rxbuf = s.rxbuf := rfl
@[simp] theorem dropCommand_events (rest : List Bytes) (s : State) : (dropCommand rest s).events = s.events := rfl
@[simp] theorem dropCommand_diag (rest : List Bytes) (s : State) : (dropCommand rest s).diag = s.diag := rfl
@[simp] theorem dropCommand_inbox (rest : List Bytes) (s : State) : (dropCommand rest s).inbox = rest := rfl
@[simp] theorem dropCommand_outbox (rest : List Bytes) (s : State) : (dropCommand rest s).outbox = s.outbox := rfl
@[simp] theorem dropCommand_answers (rest : List Bytes) (s : State) : (dropCommand rest s).answers = s.answers := rfl
@[simp] theorem dropCommand_draws (rest : List Bytes) (s : State) : (dropCommand rest s).draws = s.draws := rfl
@[simp] theorem dropCommand_waits (rest : List Bytes) (s : State) : (dropCommand rest s).waits = s.waits := rfl

/-! ### `logCall` -/

@[simp] theorem logCall_cfg (op : PortOp) (a : PortAnswer) (s : State) : (logCall op a s).cfg = s.cfg := rfl
@[simp] theorem logCall_crc (op : PortOp) (a : PortAnswer) (s : State) : (logCall op a s).crc = s.crc := rfl
@[simp] theorem logCall_seq (op : PortOp) (a : PortAnswer) (s : State) : (logCall op a s).seq = s.seq := rfl
@[simp] theorem logCall_err (op : PortOp) (a : PortAnswer) (s : State) : (logCall op a s).err = s.err := rfl
@[simp] theorem logCall_einfo (op : PortOp) (a : PortAnswer) (s : State) : (logCall op a s).einfo = s.einfo := rfl
@[simp] theorem logCall_phase (op : PortOp) (a : PortAnswer) (s : State) : (logCall op a s).phase = s.phase := rfl
@[simp] theorem logCall_att (op : PortOp) (a : PortAnswer) (s : State) : (logCall op a s).att = s.att + 1 := rfl
@[simp] theorem logCall_txbuf (op : PortOp) (a : PortAnswer) (s : State) : (logCall op a s).txbuf = s.txbuf := rfl
@[simp] theorem logCall_rxhdr (op : PortOp) (a : PortAnswer) (s : State) : (logCall op a s).rxhdr = s.rxhdr := rfl
@[simp] theorem logCall_rxbuf (op : PortOp) (a : PortAnswer) (s : State) : (logCall op a s).rxbuf = s.rxbuf := rfl
@[simp] theorem logCall_events (op : PortOp) (a : PortAnswer) (s : State) :
    (logCall op a s).events = s.events ++ [⟨portCallOf s.cfg op, a⟩] := rfl
@[simp] theorem logCall_diag (op : PortOp) (a : PortAnswer) (s : State) : (logCall op a s).diag = s.diag := rfl
@[simp] theorem logCall_inbox (op : PortOp) (a : PortAnswer) (s : State) : (logCall op a s).inbox = s.inbox := rfl
@[simp] theorem logCall_outbox (op : PortOp) (a : PortAnswer) (s : State) : (logCall op a s).outbox = s.outbox := rfl
@[simp] theorem logCall_answers (op : PortOp) (a : PortAnswer) (s : State) : (logCall op a s).answers = s.answers :=
  rfl
@[simp] theorem logCall_draws (op : PortOp) (a : PortAnswer) (s : State) : (logCall op a s).draws = s.draws := rfl
@[simp] theorem logCall_waits (op : PortOp) (a : PortAnswer) (s : State) : (logCall op a s).waits = s.waits := rfl

/-! ### `seqFlip` -/

@[simp] theorem seqFlip_cfg (s : State) : (seqFlip s).cfg = s.cfg := rfl
@[simp] theorem seqFlip_crc (s : State) : (seqFlip s).crc = s.crc := rfl
@[simp] theorem seqFlip_seq (s : State) : (seqFlip s).seq = s.seq ^^^ 1#1 := rfl
@[simp] theorem seqFlip_err (s : State) : (seqFlip s).err = s.err := rfl
@[simp] theorem seqFlip_einfo (s : State) : (seqFlip s).einfo = s.einfo := rfl
@[simp] theorem seqFlip_phase (s : State) : (seqFlip s).phase = s.phase := rfl
@[simp] theorem seqFlip_att (s : State) : (seqFlip s).att = s.att := rfl
@[simp] theorem seqFlip_txbuf (s : State) : (seqFlip s).txbuf = s.txbuf := rfl
@[simp] theorem seqFlip_rxhdr (s : State) : (seqFlip s).rxhdr = s.rxhdr := rfl
@[simp] theorem seqFlip_rxbuf (s : State) : (seqFlip s).rxbuf = s.rxbuf := rfl
@[simp] theorem seqFlip_events (s : State) : (seqFlip s).events = s.events := rfl
@[simp] theorem seqFlip_diag (s : State) : (seqFlip s).diag = s.diag := rfl
@[simp] theorem seqFlip_inbox (s : State) : (seqFlip s).inbox = s.inbox := rfl
@[simp] theorem seqFlip_outbox (s : State) : (seqFlip s).outbox = s.outbox := rfl
@[simp] theorem seqFlip_answers (s : State) : (seqFlip s).answers = s.answers := rfl
@[simp] theorem seqFlip_draws (s : State) : (seqFlip s).draws = s.draws := rfl
@[simp] theorem seqFlip_waits (s : State) : (seqFlip s).waits = s.waits := rfl

/-! ### `seqForce` -/

@[simp] theorem seqForce_cfg (s : State) : (seqForce s).cfg = s.cfg := rfl
@[simp] theorem seqForce_crc (s : State) : (seqForce s).crc = s.crc := rfl
@[simp] theorem seqForce_seq (s : State) : (seqForce s).seq = 0#1 := rfl
@[simp] theorem seqForce_err (s : State) : (seqForce s).err = s.err := rfl
@[simp] theorem seqForce_einfo (s : State) : (seqForce s).einfo = s.einfo := rfl
@[simp] theorem seqForce_phase (s : State) : (seqForce s).phase = s.phase := rfl
@[simp] theorem seqForce_att (s : State) : (seqForce s).att = s.att := rfl
@[simp] theorem seqForce_txbuf (s : State) : (seqForce s).txbuf = s.txbuf := rfl
@[simp] theorem seqForce_rxhdr (s : State) : (seqForce s).rxhdr = s.rxhdr := rfl
@[simp] theorem seqForce_rxbuf (s : State) : (seqForce s).rxbuf = s.rxbuf := rfl
@[simp] theorem seqForce_events (s : State) : (seqForce s).events = s.events := rfl
@[simp] theorem seqForce_diag (s : State) : (seqForce s).diag = s.diag := rfl
@[simp] theorem seqForce_inbox (s : State) : (seqForce s).inbox = s.inbox := rfl
@[simp] theorem seqForce_outbox (s : State) : (seqForce s).outbox = s.outbox := rfl
@[simp] theorem seqForce_answers (s : State) : (seqForce s).answers = s.answers := rfl
@[simp] theorem seqForce_draws (s : State) : (seqForce s).draws = s.draws := rfl
@[simp] theorem seqForce_waits (s : State) : (seqForce s).waits = s.waits := rfl

/-! ### `resetBlock` -/

@[simp] theorem resetBlock_cfg (s : State) : (resetBlock s).cfg = s.cfg := rfl
@[simp] theorem resetBlock_crc (s : State) : (resetBlock s).crc = Config.resetCrc s.draws := rfl
@[simp] theorem resetBlock_seq (s : State) : (resetBlock s).seq = 0#1 := rfl
@[simp] theorem resetBlock_err (s : State) : (resetBlock s).err = 0#8 := rfl
@[simp] theorem resetBlock_einfo (s : State) : (resetBlock s).einfo = 0#16 := rfl
@[simp] theorem resetBlock_phase (s : State) : (resetBlock s).phase = .idle := rfl
@[simp] theorem resetBlock_att (s : State) : (resetBlock s).att = 0 := rfl
@[simp] theorem resetBlock_txbuf (s : State) : (resetBlock s).txbuf = [] := rfl
@[simp] theorem resetBlock_rxhdr (s : State) : (resetBlock s).rxhdr = [] := rfl
@[simp] theorem resetBlock_rxbuf (s : State) : (resetBlock s).rxbuf = [] := rfl
@[simp] theorem resetBlock_events (s : State) : (resetBlock s).events = [] := rfl
@[simp] theorem resetBlock_diag (s : State) : (resetBlock s).diag = s.diag := rfl
@[simp] theorem resetBlock_inbox (s : State) : (resetBlock s).inbox = s.inbox := rfl
@[simp] theorem resetBlock_outbox (s : State) : (resetBlock s).outbox = s.outbox := rfl
@[simp] theorem resetBlock_answers (s : State) : (resetBlock s).answers = s.answers := rfl
@[simp] theorem resetBlock_draws (s : State) : (resetBlock s).draws = s.draws + 1 := rfl
@[simp] theorem resetBlock_waits (s : State) : (resetBlock s).waits = s.waits := rfl

/-! ### `waitDelay` -/

@[simp] theorem waitDelay_cfg (s : State) : (waitDelay s).cfg = s.cfg := rfl
@[simp] theorem waitDelay_crc (s : State) : (waitDelay s).crc = s.crc := rfl
@[simp] theorem waitDelay_seq (s : State) : (waitDelay s).seq = s.seq := rfl
@[simp] theorem waitDelay_err (s : State) : (waitDelay s).err = s.err := rfl
@[simp] theorem waitDelay_einfo (s : State) : (waitDelay s).einfo = s.einfo := rfl
@[simp] theorem waitDelay_phase (s : State) : (waitDelay s).phase = s.phase := rfl
@[simp] theorem waitDelay_att (s : State) : (waitDelay s).att = s.att := rfl
@[simp] theorem waitDelay_txbuf (s : State) : (waitDelay s).txbuf = s.txbuf := rfl
@[simp] theorem waitDelay_rxhdr (s : State) : (waitDelay s).rxhdr = s.rxhdr := rfl
@[simp] theorem waitDelay_rxbuf (s : State) : (waitDelay s).rxbuf = s.rxbuf := rfl
@[simp] theorem waitDelay_events (s : State) : (waitDelay s).events = s.events := rfl
@[simp] theorem waitDelay_diag (s : State) : (waitDelay s).diag = s.diag := rfl
@[simp] theorem waitDelay_inbox (s : State) : (waitDelay s).inbox = s.inbox := rfl
@[simp] theorem waitDelay_outbox (s : State) : (waitDelay s).outbox = s.outbox := rfl
@[simp] theorem waitDelay_answers (s : State) : (waitDelay s).answers = s.answers := rfl
@[simp] theorem waitDelay_draws (s : State) : (waitDelay s).draws = s.draws := rfl
@[simp] theorem waitDelay_waits (s : State) : (waitDelay s).waits = s.waits + 1 := rfl

/-! ### `seqOnRequest` -/

@[simp] theorem seqOnRequest_cfg (p : Byte) (s : State) : (seqOnRequest p s).cfg = s.cfg :=
  by unfold seqOnRequest; split <;> rfl
@[simp] theorem seqOnRequest_crc (p : Byte) (s : State) : (seqOnRequest p s).crc = s.crc :=
  by unfold seqOnRequest; split <;> rfl
@[simp] theorem seqOnRequest_seq (p : Byte) (s : State) :
    (seqOnRequest p s).seq = if p = PCB_RESET then 0#1 else s.seq := by unfold seqOnRequest; split <;> rfl
@[simp] theorem seqOnRequest_err (p : Byte) (s : State) : (seqOnRequest p s).err = s.err :=
  by unfold seqOnRequest; split <;> rfl
@[simp] theorem seqOnRequest_einfo (p : Byte) (s : State) : (seqOnRequest p s).einfo = s.einfo :=
  by unfold seqOnRequest; split <;> rfl
@[simp] theorem seqOnRequest_phase (p : Byte) (s : State) : (seqOnRequest p s).phase = s.phase :=
  by unfold seqOnRequest; split <;> rfl
@[simp] theorem seqOnRequest_att (p : Byte) (s : State) : (seqOnRequest p s).att = s.att :=
  by unfold seqOnRequest; split <;> rfl
@[simp] theorem seqOnRequest_txbuf (p : Byte) (s : State) : (seqOnRequest p s).txbuf = s.txbuf :=
  by unfold seqOnRequest; split <;> rfl
@[simp] theorem seqOnRequest_rxhdr (p : Byte) (s : State) : (seqOnRequest p s).rxhdr = s.rxhdr :=
  by unfold seqOnRequest; split <;> rfl
@[simp] theorem seqOnRequest_rxbuf (p : Byte) (s : State) : (seqOnRequest p s).rxbuf = s.rxbuf :=
  by unfold seqOnRequest; split <;> rfl
@[simp] theorem seqOnRequest_events (p : Byte) (s : State) : (seqOnRequest p s).events = s.events :=
  by unfold seqOnRequest; split <;> rfl
@[simp] theorem seqOnRequest_diag (p : Byte) (s : State) : (seqOnRequest p s).diag = s.diag :=
  by unfold seqOnRequest; split <;> rfl
@[simp] theorem seqOnRequest_inbox (p : Byte) (s : State) : (seqOnRequest p s).inbox = s.inbox :=
  by unfold seqOnRequest; split <;> rfl
@[simp] theorem seqOnRequest_outbox (p : Byte) (s : State) : (seqOnRequest p s).outbox = s.outbox :=
  by unfold seqOnRequest; split <;> rfl
@[simp] theorem seqOnRequest_answers (p : Byte) (s : State) : (seqOnRequest p s).answers = s.answers :=
  by unfold seqOnRequest; split <;> rfl
@[simp] theorem seqOnRequest_draws (p : Byte) (s : State) : (seqOnRequest p s).draws = s.draws :=
  by unfold seqOnRequest; split <;> rfl
@[simp] theorem seqOnRequest_waits (p : Byte) (s : State) : (seqOnRequest p s).waits = s.waits :=
  by unfold seqOnRequest; split <;> rfl

/-! ### `seqOnSuccess` -/

@[simp] theorem seqOnSuccess_cfg (p : Byte) (s : State) : (seqOnSuccess p s).cfg = s.cfg :=
  by unfold seqOnSuccess; cases s.cfg.iblock.has p <;> rfl
@[simp] theorem seqOnSuccess_crc (p : Byte) (s : State) : (seqOnSuccess p s).crc = s.crc :=
  by unfold seqOnSuccess; cases s.cfg.iblock.has p <;> rfl
@[simp] theorem seqOnSuccess_seq (p : Byte) (s : State) :
    (seqOnSuccess p s).seq = bif s.cfg.iblock.has p then s.seq ^^^ 1#1 else s.seq := by unfold seqOnSuccess; cases s.cfg.iblock.has p <;> rfl
@[simp] theorem seqOnSuccess_err (p : Byte) (s : State) : (seqOnSuccess p s).err = s.err :=
  by unfold seqOnSuccess; cases s.cfg.iblock.has p <;> rfl
@[simp] theorem seqOnSuccess_einfo (p : Byte) (s : State) : (seqOnSuccess p s).einfo = s.einfo :=
  by unfold seqOnSuccess; cases s.cfg.iblock.has p <;> rfl
@[simp] theorem seqOnSuccess_phase (p : Byte) (s : State) : (seqOnSuccess p s).phase = s.phase :=
  by unfold seqOnSuccess; cases s.cfg.iblock.has p <;> rfl
@[simp] theorem seqOnSuccess_att (p : Byte) (s : State) : (seqOnSuccess p s).att = s.att :=
  by unfold seqOnSuccess; cases s.cfg.iblock.has p <;> rfl
@[simp] theorem seqOnSuccess_txbuf (p : Byte) (s : State) : (seqOnSuccess p s).txbuf = s.txbuf :=
  by unfold seqOnSuccess; cases s.cfg.iblock.has p <;> rfl
@[simp] theorem seqOnSuccess_rxhdr (p : Byte) (s : State) : (seqOnSuccess p s).rxhdr = s.rxhdr :=
  by unfold seqOnSuccess; cases s.cfg.iblock.has p <;> rfl
@[simp] theorem seqOnSuccess_rxbuf (p : Byte) (s : State) : (seqOnSuccess p s).rxbuf = s.rxbuf :=
  by unfold seqOnSuccess; cases s.cfg.iblock.has p <;> rfl
@[simp] theorem seqOnSuccess_events (p : Byte) (s : State) : (seqOnSuccess p s).events = s.events :=
  by unfold seqOnSuccess; cases s.cfg.iblock.has p <;> rfl
@[simp] theorem seqOnSuccess_diag (p : Byte) (s : State) : (seqOnSuccess p s).diag = s.diag :=
  by unfold seqOnSuccess; cases s.cfg.iblock.has p <;> rfl
@[simp] theorem seqOnSuccess_inbox (p : Byte) (s : State) : (seqOnSuccess p s).inbox = s.inbox :=
  by unfold seqOnSuccess; cases s.cfg.iblock.has p <;> rfl
@[simp] theorem seqOnSuccess_outbox (p : Byte) (s : State) : (seqOnSuccess p s).outbox = s.outbox :=
  by unfold seqOnSuccess; cases s.cfg.iblock.has p <;> rfl
@[simp] theorem seqOnSuccess_answers (p : Byte) (s : State) : (seqOnSuccess p s).answers = s.answers :=
  by unfold seqOnSuccess; cases s.cfg.iblock.has p <;> rfl
@[simp] theorem seqOnSuccess_draws (p : Byte) (s : State) : (seqOnSuccess p s).draws = s.draws :=
  by unfold seqOnSuccess; cases s.cfg.iblock.has p <;> rfl
@[simp] theorem seqOnSuccess_waits (p : Byte) (s : State) : (seqOnSuccess p s).waits = s.waits :=
  by unfold seqOnSuccess; cases s.cfg.iblock.has p <;> rfl

/-! ### `diagnose` -/

@[simp] theorem diagnose_cfg (r : DiagRecord) (s : State) : (diagnose r s).cfg = s.cfg :=
  by unfold diagnose; cases s.cfg.sink <;> rfl
@[simp] theorem diagnose_crc (r : DiagRecord) (s : State) : (diagnose r s).crc = s.crc :=
  by unfold diagnose; cases s.cfg.sink <;> rfl
@[simp] theorem diagnose_seq (r : DiagRecord) (s : State) : (diagnose r s).seq = s.seq :=
  by unfold diagnose; cases s.cfg.sink <;> rfl
@[simp] theorem diagnose_err (r : DiagRecord) (s : State) : (diagnose r s).err = s.err :=
  by unfold diagnose; cases s.cfg.sink <;> rfl
@[simp] theorem diagnose_einfo (r : DiagRecord) (s : State) : (diagnose r s).einfo = s.einfo :=
  by unfold diagnose; cases s.cfg.sink <;> rfl
@[simp] theorem diagnose_phase (r : DiagRecord) (s : State) : (diagnose r s).phase = s.phase :=
  by unfold diagnose; cases s.cfg.sink <;> rfl
@[simp] theorem diagnose_att (r : DiagRecord) (s : State) : (diagnose r s).att = s.att :=
  by unfold diagnose; cases s.cfg.sink <;> rfl
@[simp] theorem diagnose_txbuf (r : DiagRecord) (s : State) : (diagnose r s).txbuf = s.txbuf :=
  by unfold diagnose; cases s.cfg.sink <;> rfl
@[simp] theorem diagnose_rxhdr (r : DiagRecord) (s : State) : (diagnose r s).rxhdr = s.rxhdr :=
  by unfold diagnose; cases s.cfg.sink <;> rfl
@[simp] theorem diagnose_rxbuf (r : DiagRecord) (s : State) : (diagnose r s).rxbuf = s.rxbuf :=
  by unfold diagnose; cases s.cfg.sink <;> rfl
@[simp] theorem diagnose_events (r : DiagRecord) (s : State) : (diagnose r s).events = s.events :=
  by unfold diagnose; cases s.cfg.sink <;> rfl
@[simp] theorem diagnose_diag (r : DiagRecord) (s : State) :
    (diagnose r s).diag = bif s.cfg.sink then s.diag ++ [r] else s.diag := by unfold diagnose; cases s.cfg.sink <;> rfl
@[simp] theorem diagnose_inbox (r : DiagRecord) (s : State) : (diagnose r s).inbox = s.inbox :=
  by unfold diagnose; cases s.cfg.sink <;> rfl
@[simp] theorem diagnose_outbox (r : DiagRecord) (s : State) : (diagnose r s).outbox = s.outbox :=
  by unfold diagnose; cases s.cfg.sink <;> rfl
@[simp] theorem diagnose_answers (r : DiagRecord) (s : State) : (diagnose r s).answers = s.answers :=
  by unfold diagnose; cases s.cfg.sink <;> rfl
@[simp] theorem diagnose_draws (r : DiagRecord) (s : State) : (diagnose r s).draws = s.draws :=
  by unfold diagnose; cases s.cfg.sink <;> rfl
@[simp] theorem diagnose_waits (r : DiagRecord) (s : State) : (diagnose r s).waits = s.waits :=
  by unfold diagnose; cases s.cfg.sink <;> rfl

/-! ### `chainDiagnostic` -/

@[simp] theorem chainDiagnostic_cfg (p : Byte) (s : State) : (chainDiagnostic p s).cfg = s.cfg :=
  by unfold chainDiagnostic; cases s.cfg.chain.has p <;> simp
@[simp] theorem chainDiagnostic_crc (p : Byte) (s : State) : (chainDiagnostic p s).crc = s.crc :=
  by unfold chainDiagnostic; cases s.cfg.chain.has p <;> simp
@[simp] theorem chainDiagnostic_seq (p : Byte) (s : State) : (chainDiagnostic p s).seq = s.seq :=
  by unfold chainDiagnostic; cases s.cfg.chain.has p <;> simp
@[simp] theorem chainDiagnostic_err (p : Byte) (s : State) : (chainDiagnostic p s).err = s.err :=
  by unfold chainDiagnostic; cases s.cfg.chain.has p <;> simp
@[simp] theorem chainDiagnostic_einfo (p : Byte) (s : State) : (chainDiagnostic p s).einfo = s.einfo :=
  by unfold chainDiagnostic; cases s.cfg.chain.has p <;> simp
@[simp] theorem chainDiagnostic_phase (p : Byte) (s : State) : (chainDiagnostic p s).phase = s.phase :=
  by unfold chainDiagnostic; cases s.cfg.chain.has p <;> simp
@[simp] theorem chainDiagnostic_att (p : Byte) (s : State) : (chainDiagnostic p s).att = s.att :=
  by unfold chainDiagnostic; cases s.cfg.chain.has p <;> simp
@[simp] theorem chainDiagnostic_txbuf (p : Byte) (s : State) : (chainDiagnostic p s).txbuf = s.txbuf :=
  by unfold chainDiagnostic; cases s.cfg.chain.has p <;> simp
@[simp] theorem chainDiagnostic_rxhdr (p : Byte) (s : State) : (chainDiagnostic p s).rxhdr = s.rxhdr :=
  by unfold chainDiagnostic; cases s.cfg.chain.has p <;> simp
@[simp] theorem chainDiagnostic_rxbuf (p : Byte) (s : State) : (chainDiagnostic p s).rxbuf = s.rxbuf :=
  by unfold chainDiagnostic; cases s.cfg.chain.has p <;> simp
@[simp] theorem chainDiagnostic_events (p : Byte) (s : State) : (chainDiagnostic p s).events = s.events :=
  by unfold chainDiagnostic; cases s.cfg.chain.has p <;> simp
@[simp] theorem chainDiagnostic_diag (p : Byte) (s : State) :
    (chainDiagnostic p s).diag = bif s.cfg.chain.has p then (diagnose (.chainSeen p) s).diag else s.diag := by unfold chainDiagnostic; cases s.cfg.chain.has p <;> simp
@[simp] theorem chainDiagnostic_inbox (p : Byte) (s : State) : (chainDiagnostic p s).inbox = s.inbox :=
  by unfold chainDiagnostic; cases s.cfg.chain.has p <;> simp
@[simp] theorem chainDiagnostic_outbox (p : Byte) (s : State) : (chainDiagnostic p s).outbox = s.outbox :=
  by unfold chainDiagnostic; cases s.cfg.chain.has p <;> simp
@[simp] theorem chainDiagnostic_answers (p : Byte) (s : State) : (chainDiagnostic p s).answers = s.answers :=
  by unfold chainDiagnostic; cases s.cfg.chain.has p <;> simp
@[simp] theorem chainDiagnostic_draws (p : Byte) (s : State) : (chainDiagnostic p s).draws = s.draws :=
  by unfold chainDiagnostic; cases s.cfg.chain.has p <;> simp
@[simp] theorem chainDiagnostic_waits (p : Byte) (s : State) : (chainDiagnostic p s).waits = s.waits :=
  by unfold chainDiagnostic; cases s.cfg.chain.has p <;> simp

/-! ### `takeAnswer` -/

@[simp] theorem takeAnswer_cfg (s : State) : (takeAnswer s).2.cfg = s.cfg := by unfold takeAnswer; split <;> rfl
@[simp] theorem takeAnswer_crc (s : State) : (takeAnswer s).2.crc = s.crc := by unfold takeAnswer; split <;> rfl
@[simp] theorem takeAnswer_seq (s : State) : (takeAnswer s).2.seq = s.seq := by unfold takeAnswer; split <;> rfl
@[simp] theorem takeAnswer_err (s : State) : (takeAnswer s).2.err = s.err := by unfold takeAnswer; split <;> rfl
@[simp] theorem takeAnswer_einfo (s : State) : (takeAnswer s).2.einfo = s.einfo := by unfold takeAnswer; split <;> rfl
@[simp] theorem takeAnswer_phase (s : State) : (takeAnswer s).2.phase = s.phase := by unfold takeAnswer; split <;> rfl
@[simp] theorem takeAnswer_att (s : State) : (takeAnswer s).2.att = s.att := by unfold takeAnswer; split <;> rfl
@[simp] theorem takeAnswer_txbuf (s : State) : (takeAnswer s).2.txbuf = s.txbuf := by unfold takeAnswer; split <;> rfl
@[simp] theorem takeAnswer_rxhdr (s : State) : (takeAnswer s).2.rxhdr = s.rxhdr := by unfold takeAnswer; split <;> rfl
@[simp] theorem takeAnswer_rxbuf (s : State) : (takeAnswer s).2.rxbuf = s.rxbuf := by unfold takeAnswer; split <;> rfl
@[simp] theorem takeAnswer_events (s : State) : (takeAnswer s).2.events = s.events :=
  by unfold takeAnswer; split <;> rfl
@[simp] theorem takeAnswer_diag (s : State) : (takeAnswer s).2.diag = s.diag := by unfold takeAnswer; split <;> rfl
@[simp] theorem takeAnswer_inbox (s : State) : (takeAnswer s).2.inbox = s.inbox := by unfold takeAnswer; split <;> rfl
@[simp] theorem takeAnswer_outbox (s : State) : (takeAnswer s).2.outbox = s.outbox :=
  by unfold takeAnswer; split <;> rfl
@[simp] theorem takeAnswer_waits (s : State) : (takeAnswer s).2.waits = s.waits := by unfold takeAnswer; split <;> rfl

/-! ### `callPort` -/

@[simp] theorem callPort_cfg (op : PortOp) (s : State) : (callPort op s).2.cfg = s.cfg := by simp [callPort]
@[simp] theorem callPort_crc (op : PortOp) (s : State) : (callPort op s).2.crc = s.crc := by simp [callPort]
@[simp] theorem callPort_seq (op : PortOp) (s : State) : (callPort op s).2.seq = s.seq := by simp [callPort]
@[simp] theorem callPort_err (op : PortOp) (s : State) : (callPort op s).2.err = s.err := by simp [callPort]
@[simp] theorem callPort_einfo (op : PortOp) (s : State) : (callPort op s).2.einfo = s.einfo := by simp [callPort]
@[simp] theorem callPort_phase (op : PortOp) (s : State) : (callPort op s).2.phase = s.phase := by simp [callPort]
@[simp] theorem callPort_att (op : PortOp) (s : State) : (callPort op s).2.att = s.att + 1 := by simp [callPort]
@[simp] theorem callPort_txbuf (op : PortOp) (s : State) : (callPort op s).2.txbuf = s.txbuf := by simp [callPort]
@[simp] theorem callPort_rxhdr (op : PortOp) (s : State) : (callPort op s).2.rxhdr = s.rxhdr := by simp [callPort]
@[simp] theorem callPort_rxbuf (op : PortOp) (s : State) : (callPort op s).2.rxbuf = s.rxbuf := by simp [callPort]
@[simp] theorem callPort_events (op : PortOp) (s : State) :
    (callPort op s).2.events = s.events ++ [⟨portCallOf s.cfg op, (callPort op s).1⟩] := by simp [callPort]
@[simp] theorem callPort_diag (op : PortOp) (s : State) :
    (callPort op s).2.diag = bif s.cfg.sink then s.diag ++ [portRecord s.cfg op (callPort op s).1] else s.diag := by simp [callPort]
@[simp] theorem callPort_inbox (op : PortOp) (s : State) : (callPort op s).2.inbox = s.inbox := by simp [callPort]
@[simp] theorem callPort_outbox (op : PortOp) (s : State) : (callPort op s).2.outbox = s.outbox := by simp [callPort]
@[simp] theorem callPort_answers (op : PortOp) (s : State) : (callPort op s).2.answers = (takeAnswer s).2.answers :=
  by simp [callPort]
@[simp] theorem callPort_draws (op : PortOp) (s : State) : (callPort op s).2.draws = (takeAnswer s).2.draws :=
  by simp [callPort]
@[simp] theorem callPort_waits (op : PortOp) (s : State) : (callPort op s).2.waits = s.waits := by simp [callPort]

/-! ### `enterPhase` -/

@[simp] theorem enterPhase_cfg (p : Phase) (s : State) : (enterPhase p s).cfg = s.cfg := rfl
@[simp] theorem enterPhase_crc (p : Phase) (s : State) : (enterPhase p s).crc = s.crc := rfl
@[simp] theorem enterPhase_seq (p : Phase) (s : State) : (enterPhase p s).seq = s.seq := rfl
@[simp] theorem enterPhase_err (p : Phase) (s : State) : (enterPhase p s).err = s.err := rfl
@[simp] theorem enterPhase_einfo (p : Phase) (s : State) : (enterPhase p s).einfo = s.einfo := rfl
@[simp] theorem enterPhase_phase (p : Phase) (s : State) : (enterPhase p s).phase = p := rfl
@[simp] theorem enterPhase_att (p : Phase) (s : State) : (enterPhase p s).att = 0 := rfl
@[simp] theorem enterPhase_txbuf (p : Phase) (s : State) : (enterPhase p s).txbuf = s.txbuf := rfl
@[simp] theorem enterPhase_rxhdr (p : Phase) (s : State) : (enterPhase p s).rxhdr = s.rxhdr := rfl
@[simp] theorem enterPhase_rxbuf (p : Phase) (s : State) : (enterPhase p s).rxbuf = s.rxbuf := rfl
@[simp] theorem enterPhase_events (p : Phase) (s : State) : (enterPhase p s).events = s.events := rfl
@[simp] theorem enterPhase_diag (p : Phase) (s : State) : (enterPhase p s).diag = s.diag := rfl
@[simp] theorem enterPhase_inbox (p : Phase) (s : State) : (enterPhase p s).inbox = s.inbox := rfl
@[simp] theorem enterPhase_outbox (p : Phase) (s : State) : (enterPhase p s).outbox = s.outbox := rfl
@[simp] theorem enterPhase_answers (p : Phase) (s : State) : (enterPhase p s).answers = s.answers := rfl
@[simp] theorem enterPhase_draws (p : Phase) (s : State) : (enterPhase p s).draws = s.draws := rfl
@[simp] theorem enterPhase_waits (p : Phase) (s : State) : (enterPhase p s).waits = s.waits := rfl

/-! ### `deliver` -/

@[simp] theorem deliver_cfg (m : Bytes) (s : State) : (deliver m s).cfg = s.cfg := rfl
@[simp] theorem deliver_crc (m : Bytes) (s : State) : (deliver m s).crc = s.crc := rfl
@[simp] theorem deliver_seq (m : Bytes) (s : State) : (deliver m s).seq = s.seq := rfl
@[simp] theorem deliver_err (m : Bytes) (s : State) : (deliver m s).err = s.err := rfl
@[simp] theorem deliver_einfo (m : Bytes) (s : State) : (deliver m s).einfo = s.einfo := rfl
@[simp] theorem deliver_phase (m : Bytes) (s : State) : (deliver m s).phase = .idle := rfl
@[simp] theorem deliver_att (m : Bytes) (s : State) : (deliver m s).att = s.att := rfl
@[simp] theorem deliver_txbuf (m : Bytes) (s : State) : (deliver m s).txbuf = s.txbuf := rfl
@[simp] theorem deliver_rxhdr (m : Bytes) (s : State) : (deliver m s).rxhdr = s.rxhdr := rfl
@[simp] theorem deliver_rxbuf (m : Bytes) (s : State) : (deliver m s).rxbuf = s.rxbuf := rfl
@[simp] theorem deliver_events (m : Bytes) (s : State) : (deliver m s).events = s.events := rfl
@[simp] theorem deliver_diag (m : Bytes) (s : State) : (deliver m s).diag = s.diag := rfl
@[simp] theorem deliver_inbox (m : Bytes) (s : State) : (deliver m s).inbox = m :: s.inbox := rfl
@[simp] theorem deliver_outbox (m : Bytes) (s : State) : (deliver m s).outbox = s.outbox := rfl
@[simp] theorem deliver_answers (m : Bytes) (s : State) : (deliver m s).answers = s.answers := rfl
@[simp] theorem deliver_draws (m : Bytes) (s : State) : (deliver m s).draws = s.draws := rfl
@[simp] theorem deliver_waits (m : Bytes) (s : State) : (deliver m s).waits = s.waits := rfl

end Sys2Proof.Machine
end

