-- ==== Sys2Proof/Laws/Ops.lean ====
section
/-! SUPPORT. One lemma for each shared operation that says once what it can do; later proofs cite these and do not
unfold the operation. -/

namespace Sys2Proof.Machine

/-! ### CRC and frames -/

@[simp] theorem crc16_nil (c : Half) : crc16 [] c = c := rfl

@[simp] theorem crc16_cons (b : Byte) (d : Bytes) (c : Half) : crc16 (b :: d) c = crc16 d (crcByte c b) := rfl

@[simp] theorem frameHead_length (nad pcb : Byte) (d : Bytes) : (frameHead nad pcb d).length = d.length + 3 := by
  simp [frameHead]

@[simp] theorem fcsOf_length (c : Half) : (fcsOf c).length = 2 := rfl

@[simp] theorem fcs_length (d : Bytes) : (fcs d).length = 2 := rfl

theorem encodeFrame_tooLong {nad pcb : Byte} {d : Bytes} (h : 254 ≤ d.length) : encodeFrame nad pcb d = none := by
  simp [encodeFrame, IFSC, h]

theorem encodeFrame_fits {nad pcb : Byte} {d : Bytes} (h : d.length ≤ 253) :
    encodeFrame nad pcb d = some (frameHead nad pcb d ++ fcs (frameHead nad pcb d)) := by
  have h' : ¬ 254 ≤ d.length := by omega
  simp [encodeFrame, IFSC, h']

theorem buildRequest_tooLong {pcb : Byte} {d : Bytes} {s : State} (h : 254 ≤ d.length) :
    buildRequest pcb d s = none := by
  simp [buildRequest, encodeFrame_tooLong h]

theorem buildRequest_fits {pcb : Byte} {d : Bytes} {s : State} (h : d.length ≤ 253) :
    buildRequest pcb d s = some (holdFrame (crc16 (frameHead s.cfg.nad pcb d) SEED0)
      (frameHead s.cfg.nad pcb d ++ fcs (frameHead s.cfg.nad pcb d)) s) := by
  simp [buildRequest, encodeFrame_fits h]

/-! ### Registers -/

@[simp] theorem readReg_crc (s : State) : readReg s 0#8 = some s.crc := rfl
@[simp] theorem readReg_seq (s : State) : readReg s 1#8 = some (s.seq.zeroExtend 16) := rfl
@[simp] theorem readReg_err (s : State) : readReg s 2#8 = some (s.err.zeroExtend 16) := rfl
@[simp] theorem readReg_einfo (s : State) : readReg s 3#8 = some s.einfo := rfl

theorem readReg_none {s : State} {r : Byte} (h : 3#8 < r) : readReg s r = none := by
  have h' : 3 < r.toNat := by simpa [BitVec.lt_def] using h
  unfold readReg
  split <;> first | rfl | omega

/-! ### Responses -/

@[simp] theorem responseMessage_length (c : Byte) (d : Bytes) : (responseMessage c d).length = d.length + 3 := by
  simp [responseMessage, le16]

/-! ### The port -/

theorem takeAnswer_listed {s : State} {a : PortAnswer} {rest : List PortAnswer} (h : s.answers = a :: rest) :
    takeAnswer s = (a, { s with answers := rest }) := by
  simp [takeAnswer, h]

theorem takeAnswer_drawn {s : State} (h : s.answers = []) :
    takeAnswer s = (Config.portAnswer s.draws, { s with draws := s.draws + 1 }) := by
  simp [takeAnswer, h]

/-- One attempt, given the answer that comes. -/
theorem callPort_of_takeAnswer {op : PortOp} {s t : State} {a : PortAnswer} (h : takeAnswer s = (a, t)) :
    callPort op s = (answerTo op a, diagnose (portRecord t.cfg op (answerTo op a))
      (logCall op (answerTo op a) t)) := by
  simp [callPort, h]

@[simp] theorem answerTo_read (n : Nat) (a : PortAnswer) : answerTo (.read n) a = a := by cases a <;> rfl
@[simp] theorem answerTo_write_ok (v b : Bytes) : answerTo (.write v) (.ok b) = .ok [] := rfl
@[simp] theorem answerTo_err (op : PortOp) (e : TErr) : answerTo op (.err e) = .err e := by cases op <;> rfl

/-- A step in a phase goes on, waits, or raises `TransportError`. -/
theorem portStep_cases (op : PortOp) (onOk : Bytes → State → State) (s : State) :
    (∃ v t, callPort op s = (.ok v, t) ∧ portStep op onOk s = onOk v t) ∨
    (∃ e t, callPort op s = (.err e, t) ∧ t.att < t.cfg.maxAtt.n ∧ portStep op onOk s = waitDelay t) ∨
    (∃ e t, callPort op s = (.err e, t) ∧ ¬ t.att < t.cfg.maxAtt.n ∧
      portStep op onOk s = raise (.transportError e) t) := by
  unfold portStep
  split
  · next v t h => exact .inl ⟨v, t, h, rfl⟩
  · next e t h =>
    by_cases hb : t.att < t.cfg.maxAtt.n
    · exact .inr (.inl ⟨e, t, h, hb, by simp [hb]⟩)
    · exact .inr (.inr ⟨e, t, h, hb, by simp [hb]⟩)

/-- The retry loop: its last attempt answers, or an earlier one does, or it waits and goes on. -/
theorem retryLoop_ok {op : PortOp} {k : Nat} {s t : State} {v : Bytes} (h : callPort op s = (.ok v, t)) :
    retryLoop op k s = (.ok v, t) := by
  cases k <;> simp [retryLoop, h]

theorem retryLoop_last {op : PortOp} {s t : State} {e : TErr} (h : callPort op s = (.err e, t)) :
    retryLoop op 0 s = (.err e, t) := by
  simp [retryLoop, h]

theorem retryLoop_again {op : PortOp} {k : Nat} {s t : State} {e : TErr} (h : callPort op s = (.err e, t)) :
    retryLoop op (k + 1) s = retryLoop op k (waitDelay t) := by
  simp [retryLoop, h]

/-- What a port call and a wait leave alone, the whole retry loop leaves alone. -/
theorem retryLoop_preserves {α : Type} (g : State → α) (op : PortOp) (hcall : ∀ s, g (callPort op s).2 = g s)
    (hwait : ∀ s, g (waitDelay s) = g s) (k : Nat) (s : State) : g (retryLoop op k s).2 = g s := by
  induction k generalizing s with
  | zero => exact hcall s
  | succ k ih =>
    have h := hcall s
    unfold retryLoop
    split
    · next hc => rw [hc] at h; exact h
    · next hc => rw [hc] at h; rw [ih, hwait]; exact h

@[simp] theorem retryLoop_cfg (op : PortOp) (k : Nat) (s : State) : (retryLoop op k s).2.cfg = s.cfg :=
  retryLoop_preserves (·.cfg) op (by simp) (by simp) k s
@[simp] theorem retryLoop_crc (op : PortOp) (k : Nat) (s : State) : (retryLoop op k s).2.crc = s.crc :=
  retryLoop_preserves (·.crc) op (by simp) (by simp) k s
@[simp] theorem retryLoop_seq (op : PortOp) (k : Nat) (s : State) : (retryLoop op k s).2.seq = s.seq :=
  retryLoop_preserves (·.seq) op (by simp) (by simp) k s
@[simp] theorem retryLoop_err (op : PortOp) (k : Nat) (s : State) : (retryLoop op k s).2.err = s.err :=
  retryLoop_preserves (·.err) op (by simp) (by simp) k s
@[simp] theorem retryLoop_einfo (op : PortOp) (k : Nat) (s : State) : (retryLoop op k s).2.einfo = s.einfo :=
  retryLoop_preserves (·.einfo) op (by simp) (by simp) k s
@[simp] theorem retryLoop_phase (op : PortOp) (k : Nat) (s : State) : (retryLoop op k s).2.phase = s.phase :=
  retryLoop_preserves (·.phase) op (by simp) (by simp) k s
@[simp] theorem retryLoop_txbuf (op : PortOp) (k : Nat) (s : State) : (retryLoop op k s).2.txbuf = s.txbuf :=
  retryLoop_preserves (·.txbuf) op (by simp) (by simp) k s
@[simp] theorem retryLoop_rxhdr (op : PortOp) (k : Nat) (s : State) : (retryLoop op k s).2.rxhdr = s.rxhdr :=
  retryLoop_preserves (·.rxhdr) op (by simp) (by simp) k s
@[simp] theorem retryLoop_rxbuf (op : PortOp) (k : Nat) (s : State) : (retryLoop op k s).2.rxbuf = s.rxbuf :=
  retryLoop_preserves (·.rxbuf) op (by simp) (by simp) k s
@[simp] theorem retryLoop_inbox (op : PortOp) (k : Nat) (s : State) : (retryLoop op k s).2.inbox = s.inbox :=
  retryLoop_preserves (·.inbox) op (by simp) (by simp) k s
@[simp] theorem retryLoop_outbox (op : PortOp) (k : Nat) (s : State) : (retryLoop op k s).2.outbox = s.outbox :=
  retryLoop_preserves (·.outbox) op (by simp) (by simp) k s

@[simp] theorem retry_cfg (op : PortOp) (s : State) : (retry op s).2.cfg = s.cfg := by simp [retry]
@[simp] theorem retry_crc (op : PortOp) (s : State) : (retry op s).2.crc = s.crc := by simp [retry]
@[simp] theorem retry_seq (op : PortOp) (s : State) : (retry op s).2.seq = s.seq := by simp [retry]
@[simp] theorem retry_err (op : PortOp) (s : State) : (retry op s).2.err = s.err := by simp [retry]
@[simp] theorem retry_einfo (op : PortOp) (s : State) : (retry op s).2.einfo = s.einfo := by simp [retry]
@[simp] theorem retry_phase (op : PortOp) (s : State) : (retry op s).2.phase = s.phase := by simp [retry]
@[simp] theorem retry_txbuf (op : PortOp) (s : State) : (retry op s).2.txbuf = s.txbuf := by simp [retry]
@[simp] theorem retry_rxhdr (op : PortOp) (s : State) : (retry op s).2.rxhdr = s.rxhdr := by simp [retry]
@[simp] theorem retry_rxbuf (op : PortOp) (s : State) : (retry op s).2.rxbuf = s.rxbuf := by simp [retry]
@[simp] theorem retry_inbox (op : PortOp) (s : State) : (retry op s).2.inbox = s.inbox := by simp [retry]
@[simp] theorem retry_outbox (op : PortOp) (s : State) : (retry op s).2.outbox = s.outbox := by simp [retry]

/-- The events of a retry loop: failed attempts of the one call, then the attempt whose answer is the result. An error
is the result only when the budget is used up. -/
theorem retryLoop_events (op : PortOp) (k : Nat) (s : State) :
    ∃ es : List TErr, (retryLoop op k s).2.events = s.events ++
        es.map (fun e => ⟨portCallOf s.cfg op, .err e⟩) ++ [⟨portCallOf s.cfg op, (retryLoop op k s).1⟩] ∧
      es.length ≤ k ∧ ∀ e, (retryLoop op k s).1 = .err e → es.length = k := by
  induction k generalizing s with
  | zero => exact ⟨[], by simp [retryLoop], by simp, by simp⟩
  | succ k ih =>
    have hc := callPort_events op s
    have hg : (callPort op s).2.cfg = s.cfg := by simp
    rcases h : callPort op s with ⟨a | e, t⟩
    · refine ⟨[], ?_, by simp, ?_⟩ <;> rw [retryLoop_ok h] <;> simp_all
    · rw [h] at hc hg
      obtain ⟨es, h1, h2, h3⟩ := ih (waitDelay t)
      rw [retryLoop_again h]
      refine ⟨e :: es, ?_, by simpa using h2, fun x hx => by simpa using h3 x hx⟩
      rw [h1]
      simp_all
/-- The events of `retry`: failed attempts of the one call, then the attempt whose answer is the result; an error is the
result only after `MAXATT` attempts (43_transaction.md R132). -/
theorem retry_events (op : PortOp) (s : State) :
    ∃ es : List TErr, (retry op s).2.events = s.events ++
        es.map (fun e => ⟨portCallOf s.cfg op, .err e⟩) ++ [⟨portCallOf s.cfg op, (retry op s).1⟩] ∧
      es.length + 1 ≤ s.cfg.maxAtt.n ∧ ∀ e, (retry op s).1 = .err e → es.length + 1 = s.cfg.maxAtt.n := by
  have hp := s.cfg.maxAtt.pos
  obtain ⟨es, h1, h2, h3⟩ := retryLoop_events op (s.cfg.maxAtt.n - 1) (clearAtt s)
  exact ⟨es, by simpa [retry] using h1, by omega, fun e he => by have := h3 e he; omega⟩

/-! ### Exchange -/

theorem headerRead_malformed {v : Bytes} {s : State} (h : v.length ≠ 3) :
    headerRead v s = raise .malformedResponse s := by
  simp [headerRead, HDR_LEN, h]

theorem headerRead_read {v : Bytes} {s : State} (h : v.length = 3) :
    headerRead v s = enterPhase .rdbody (chainDiagnostic (headerPcb v) (holdHeader v s)) := by
  simp [headerRead, HDR_LEN, h]

theorem bodyRead_malformed {v : Bytes} {s : State} (h : v.length ≠ headerLen s.rxhdr + 2) :
    bodyRead v s = raise .malformedResponse s := by
  simp [bodyRead, FCS_LEN, h]

theorem bodyRead_read {v : Bytes} {s : State} (h : v.length = headerLen s.rxhdr + 2) :
    bodyRead v s = settleExchange (holdBody v s) := by
  simp [bodyRead, FCS_LEN, h]

theorem settleExchange_bad {s : State} (h : validate s.rxhdr s.rxbuf ≠ RESIDUE) :
    settleExchange s = raise (.crcError (s.rxbuf.getD (headerLen s.rxhdr) 0#8)
      (s.rxbuf.getD (headerLen s.rxhdr + 1) 0#8)) (setCrc (validate s.rxhdr s.rxbuf) s) := by
  simp [settleExchange, h]

theorem settleExchange_good {s : State} (h : validate s.rxhdr s.rxbuf = RESIDUE) :
    settleExchange s = complete (s.rxbuf.take (headerLen s.rxhdr))
      (setPhase .idle (seqOnSuccess (requestPcb s) (setCrc RESIDUE s))) := by
  simp [settleExchange, h]

/-- `XCHG` is refused as too long, or it starts. -/
theorem execXchg_cases (pcb : Byte) (data : Bytes) (s : State) :
    (254 ≤ data.length ∧ execXchg pcb data s = .next (raise .frameTooLong (seqOnRequest pcb s))) ∨
    (data.length ≤ 253 ∧ execXchg pcb data s = .next (enterPhase .write (holdFrame
      (crc16 (frameHead s.cfg.nad pcb data) SEED0)
      (frameHead s.cfg.nad pcb data ++ fcs (frameHead s.cfg.nad pcb data)) (seqOnRequest pcb s)))) := by
  by_cases h : 254 ≤ data.length
  · exact .inl ⟨h, by simp [execXchg, buildRequest_tooLong h]⟩
  · have h' : data.length ≤ 253 := by omega
    exact .inr ⟨h', by simp [execXchg, buildRequest_fits h']⟩

/-! ### The host's side -/

@[simp] theorem lastResponse_respond (c : Byte) (d : Bytes) (s : State) :
    lastResponse (respond c d s) = responseMessage c d := by
  simp [lastResponse]

@[simp] theorem lastResponse_complete (d : Bytes) (s : State) : lastResponse (complete d s) = responseMessage 0#8 d := by
  simp [lastResponse]

@[simp] theorem resultByte_responseMessage (c b : Byte) (d : Bytes) : resultByte (responseMessage c (b :: d)) = b := by
  simp [resultByte, responseMessage, le16]

/-- Operations that look at no response execute as a plain list. -/
theorem execLinked_map_const (ops : List Instr) (s : State) :
    execLinked (ops.map fun i _ => i) s = execAll ops s := by
  induction ops generalizing s with
  | nil => rfl
  | cons i rest ih =>
    simp only [List.map_cons, execLinked, execAll]
    cases exec i s <;> simp [ih]

/-! ### Fetching -/

/-- A ready block finds no command, a legal one, or an illegal message. -/
theorem fetch_cases (s : State) :
    (s.inbox = [] ∧ fetch s = .nothing) ∨
    (∃ m rest i, s.inbox = m :: rest ∧ decode m = .ok i ∧ fetch s = .command i (dropCommand rest s)) ∨
    (∃ m rest e, s.inbox = m :: rest ∧ decode m = .error e ∧ fetch s = .illegal (dropCommand rest s)) := by
  unfold fetch
  cases hi : s.inbox with
  | nil => simp
  | cons m rest =>
    cases hd : decode m with
    | ok i => exact .inr (.inl ⟨m, rest, i, rfl, hd, by simp [hd]⟩)
    | error e => exact .inr (.inr ⟨m, rest, e, rfl, hd, by simp [hd]⟩)

end Sys2Proof.Machine
end

