-- ==== Sys2Proof/Laws/PerInstr.lean ====
section
/-! SUPPORT. Family `RowMatch`: the first byte an instruction is encoded with (`opcodeOf`) has the bits its row of the opcode table
fixes (`match` and `mask` of spec/opcode_table.json). -/

namespace Sys2Proof.Laws.RowMatch

open Sys2Proof

/-- `mask` and `match` of the instruction's row. -/
def rowBits : Instr → Byte × Byte
  | .nop => (0xFF#8, 0x00#8)
  | .rdreg _ => (0xFF#8, 0x01#8)
  | .sreset => (0xFF#8, 0x0F#8)
  | .crcSeed _ => (0xFF#8, 0x10#8)
  | .crcUpd _ => (0xFF#8, 0x11#8)
  | .crcBlk _ => (0xFF#8, 0x12#8)
  | .crcRead => (0xFF#8, 0x13#8)
  | .crcFcs => (0xFF#8, 0x14#8)
  | .crcChk => (0xFF#8, 0x15#8)
  | .frmEnc _ _ => (0xFF#8, 0x20#8)
  | .frmHdr _ _ _ => (0xFF#8, 0x21#8)
  | .frmVal _ => (0xFF#8, 0x22#8)
  | .seqRst => (0xFF#8, 0x30#8)
  | .seqTgl => (0xFF#8, 0x31#8)
  | .seqRd => (0xFF#8, 0x32#8)
  | .seqPcb _ => (0xFF#8, 0x33#8)
  | .xchg _ _ => (0xFF#8, 0x40#8)
  | .pcbIblock _ => (0x80#8, 0x00#8)
  | .pcbReset => (0xFF#8, 0xCF#8)
  | .pcbChain _ => (0xA0#8, 0x20#8)

/-- A well-formed instruction's first encoded byte matches its row. -/
def Statement (i : Instr) : Prop := i.wf = true → opcodeOf i &&& (rowBits i).1 = (rowBits i).2

theorem nop : Statement .nop := fun _ => show 0x00#8 &&& 0xFF#8 = 0x00#8 from rfl
theorem rdreg (imm8 : Byte) : Statement (.rdreg imm8) := fun _ => show 0x01#8 &&& 0xFF#8 = 0x01#8 from rfl
theorem sreset : Statement .sreset := fun _ => show 0x0F#8 &&& 0xFF#8 = 0x0F#8 from rfl
theorem crcSeed (imm16 : Half) : Statement (.crcSeed imm16) := fun _ => show 0x10#8 &&& 0xFF#8 = 0x10#8 from rfl
theorem crcUpd (imm8 : Byte) : Statement (.crcUpd imm8) := fun _ => show 0x11#8 &&& 0xFF#8 = 0x11#8 from rfl
theorem crcBlk (data : Bytes) : Statement (.crcBlk data) := fun _ => show 0x12#8 &&& 0xFF#8 = 0x12#8 from rfl
theorem crcRead : Statement .crcRead := fun _ => show 0x13#8 &&& 0xFF#8 = 0x13#8 from rfl
theorem crcFcs : Statement .crcFcs := fun _ => show 0x14#8 &&& 0xFF#8 = 0x14#8 from rfl
theorem crcChk : Statement .crcChk := fun _ => show 0x15#8 &&& 0xFF#8 = 0x15#8 from rfl
theorem frmEnc (pcb : Byte) (data : Bytes) : Statement (.frmEnc pcb data) := fun _ => show 0x20#8 &&& 0xFF#8 = 0x20#8 from rfl
theorem frmHdr (b0 b1 b2 : Byte) : Statement (.frmHdr b0 b1 b2) := fun _ => show 0x21#8 &&& 0xFF#8 = 0x21#8 from rfl
theorem frmVal (data : Bytes) : Statement (.frmVal data) := fun _ => show 0x22#8 &&& 0xFF#8 = 0x22#8 from rfl
theorem seqRst : Statement .seqRst := fun _ => show 0x30#8 &&& 0xFF#8 = 0x30#8 from rfl
theorem seqTgl : Statement .seqTgl := fun _ => show 0x31#8 &&& 0xFF#8 = 0x31#8 from rfl
theorem seqRd : Statement .seqRd := fun _ => show 0x32#8 &&& 0xFF#8 = 0x32#8 from rfl
theorem seqPcb (imm8 : Byte) : Statement (.seqPcb imm8) := fun _ => show 0x33#8 &&& 0xFF#8 = 0x33#8 from rfl
theorem xchg (pcb : Byte) (data : Bytes) : Statement (.xchg pcb data) := fun _ => show 0x40#8 &&& 0xFF#8 = 0x40#8 from rfl
theorem pcbIblock (pcb : Byte) : Statement (.pcbIblock pcb) := fun h => of_decide_eq_true h
theorem pcbReset : Statement .pcbReset := fun _ => show 0xCF#8 &&& 0xFF#8 = 0xCF#8 from rfl
theorem pcbChain (pcb : Byte) : Statement (.pcbChain pcb) := fun h => of_decide_eq_true h

end Sys2Proof.Laws.RowMatch
end

