-- ==== Sys2Proof/Tests/Slice0.lean ====
section
/-! SUPPORT. Tests: ill-formed terms that `WellFormed` refuses, messages written out from the spec's encodings and what
they decode to, one step for each instruction with the result the spec's vectors give (95_test_vectors.md), and for each
statement with hypotheses a state and operands that meet them. -/

namespace Sys2Proof.Tests

open Sys2Proof Sys2Proof.Machine

/-! ### Helpers -/

/-- A ready block whose `CRC` is a known value. -/
def base : State := { State.reset with crc := 0x6F91#16 }

/-- A one-byte adapter error. -/
def fail (b : Byte) : TErr := ⟨[b], by simp⟩

/-- A field of the next state. -/
def after {α : Type} (o : Host.Outcome State Fault Refusal) (g : State → α) : Option α :=
  match o with
  | .next t => some (g t)
  | .fault _ => none
  | .refused _ => none

/-- The block in a phase of the exchange of `XCHG 0x40, []` (V5.2: frame `5A 40 00 33 70`, raw CRC 0x8FCC). -/
def running (p : Phase) (answers : List PortAnswer) : State :=
  { base with phase := p, crc := 0x8FCC#16, seq := 1#1, txbuf := [0x5A#8, 0x40#8, 0x00#8, 0x33#8, 0x70#8]
              rxhdr := [0xA5#8, 0x00#8, 0x00#8], answers := answers }

/-- A valid 7-byte frame (V3.6). -/
def goodFrame : Bytes := [0xA5#8, 0x00#8, 0x02#8, 0x90#8, 0x00#8, 0x02#8, 0xAF#8]

/-- The same with a payload byte changed (V3.7). -/
def badFrame : Bytes := [0xA5#8, 0x00#8, 0x02#8, 0x91#8, 0x00#8, 0x02#8, 0xAF#8]

/-! ### WellFormed refuses (30_encoding.md R61, R64; the table's masks) -/

theorem test_wf_rdreg_4 : (Instr.rdreg 0x04#8).wf = false := by decide
theorem test_wf_seqPcb_2 : (Instr.seqPcb 0x02#8).wf = false := by decide
theorem test_wf_iblock_80 : (Instr.pcbIblock 0x80#8).wf = false := by decide
theorem test_wf_chain_40 : (Instr.pcbChain 0x40#8).wf = false := by decide
theorem test_wf_crcBlk_65536 : (Instr.crcBlk (List.replicate 65536 0#8)).wf = false := by
  simp only [Instr.wf, dataFits, List.length_replicate]; decide
theorem test_wf_frmEnc_65536 : (Instr.frmEnc 0#8 (List.replicate 65536 0#8)).wf = false := by
  simp only [Instr.wf, dataFits, List.length_replicate]; decide
theorem test_wf_frmVal_65536 : (Instr.frmVal (List.replicate 65536 0#8)).wf = false := by
  simp only [Instr.wf, dataFits, List.length_replicate]; decide
theorem test_wf_xchg_65536 : (Instr.xchg 0#8 (List.replicate 65536 0#8)).wf = false := by
  simp only [Instr.wf, dataFits, List.length_replicate]; decide

/-! ### Decoding messages written out from 30_encoding.md R61, R62 and the vectors -/

theorem test_decode_nop : decode [0x00#8] = .ok .nop := by rfl
theorem test_decode_rdreg : decode [0x01#8, 0x03#8] = .ok (.rdreg 0x03#8) := by rfl
theorem test_decode_sreset : decode [0x0F#8] = .ok .sreset := by rfl
theorem test_decode_crcSeed : decode [0x10#8, 0xB8#8, 0xF0#8] = .ok (.crcSeed 0xF0B8#16) := by rfl
theorem test_decode_crcUpd : decode [0x11#8, 0x5A#8] = .ok (.crcUpd 0x5A#8) := by rfl
theorem test_decode_crcBlk : decode [0x12#8, 0x02#8, 0x00#8, 0x31#8, 0x32#8] = .ok (.crcBlk [0x31#8, 0x32#8]) := by rfl
theorem test_decode_crcRead : decode [0x13#8] = .ok .crcRead := by rfl
theorem test_decode_crcFcs : decode [0x14#8] = .ok .crcFcs := by rfl
theorem test_decode_crcChk : decode [0x15#8] = .ok .crcChk := by rfl
theorem test_decode_frmEnc : decode [0x20#8, 0xCF#8, 0x00#8, 0x00#8] = .ok (.frmEnc 0xCF#8 []) := by rfl
theorem test_decode_frmHdr :
    decode [0x21#8, 0x5A#8, 0x00#8, 0xFD#8] = .ok (.frmHdr 0x5A#8 0x00#8 0xFD#8) := by rfl
theorem test_decode_frmVal : decode (0x22#8 :: 0x07#8 :: 0x00#8 :: goodFrame) = .ok (.frmVal goodFrame) := by rfl
theorem test_decode_seqRst : decode [0x30#8] = .ok .seqRst := by rfl
theorem test_decode_seqTgl : decode [0x31#8] = .ok .seqTgl := by rfl
theorem test_decode_seqRd : decode [0x32#8] = .ok .seqRd := by rfl
theorem test_decode_seqPcb : decode [0x33#8, 0x01#8] = .ok (.seqPcb 0x01#8) := by rfl
theorem test_decode_xchg : decode [0x40#8, 0x40#8, 0x01#8, 0x00#8, 0x77#8] = .ok (.xchg 0x40#8 [0x77#8]) := by rfl
theorem test_decodePcb_iblock : decodePcb .step8 0x40#8 = some (.pcbIblock 0x40#8) := by decide
theorem test_decodePcb_reset : decodePcb .step1 0xCF#8 = some .pcbReset := by decide
theorem test_decodePcb_chain : decodePcb .response 0x20#8 = some (.pcbChain 0x20#8) := by decide
theorem test_decodePcb_notIblock : decodePcb .step8 0xCF#8 = none := by decide

/-- V6.1 rows 4, 6, 8 to 13, 15 and V4.1 row 13: the cases (a) to (e) of R64. -/
theorem test_decode_illegal :
    decode [] = .error .emptyMessage ∧
    decode [0xFF#8] = .error (.unknownOpcode 0xFF#8) ∧
    decode [0x10#8, 0xFF#8] = .error .lengthMismatch ∧
    decode [0x10#8, 0xFF#8, 0xFF#8, 0x00#8] = .error .lengthMismatch ∧
    decode [0x12#8, 0x02#8, 0x00#8, 0x31#8] = .error .lengthMismatch ∧
    decode [0x12#8, 0x00#8] = .error .lengthMismatch ∧
    decode [0x40#8, 0x00#8, 0x01#8, 0x00#8] = .error .lengthMismatch ∧
    decode [0x00#8, 0x00#8] = .error .lengthMismatch ∧
    decode [0x01#8, 0x04#8] = .error (.noSuchRegister 0x04#8) ∧
    decode [0x33#8, 0x02#8] = .error (.reservedBits 0x02#8) := by
  refine ⟨rfl, rfl, rfl, rfl, rfl, rfl, rfl, rfl, rfl, rfl⟩

/-- The table's numbering: byte 1 is bits 15..8. -/
theorem test_tableWord_crcSeed : decodeTableWord 24 0xF0B810 = some (.crcSeed 0xF0B8#16) := by rfl
theorem test_tableWord_padded : decodeTableWord 8 0x40 = some (.xchg 0x00#8 []) := by rfl

/-! ### One step of each instruction -/

/-- V6.1 row 7. -/
theorem test_nop : after (exec .nop { base with err := 5#8 }) (fun t => (t.err, t.outbox)) =
    some (0#8, [[0x00#8, 0x00#8, 0x00#8]]) := by decide +kernel
/-- V6.1 row 2. -/
theorem test_rdreg_crc : after (exec (.rdreg 0x00#8) base) (·.outbox) =
    some [[0x00#8, 0x02#8, 0x00#8, 0x91#8, 0x6F#8]] := by decide +kernel
/-- V6.1 row 5: the status register is read and kept. -/
theorem test_rdreg_err : after (exec (.rdreg 0x02#8) { base with err := 5#8 }) (fun t => (t.err, t.outbox)) =
    some (5#8, [[0x00#8, 0x02#8, 0x00#8, 0x05#8, 0x00#8]]) := by decide +kernel
/-- V6.1 row 16. -/
theorem test_sreset : after (exec .sreset { base with seq := 1#1, err := 5#8, txbuf := [0x00#8] })
    (fun t => (t.seq, t.err, t.txbuf)) = some (0#1, 0#8, []) := by rfl
/-- V2.10 row 1. -/
theorem test_crcSeed : after (exec (.crcSeed 0xFFFF#16) base) (·.crc) = some 0xFFFF#16 := by decide +kernel
/-- V2.10 row 2. -/
theorem test_crcUpd : after (exec (.crcUpd 0x5A#8) { base with crc := 0xFFFF#16 }) (·.crc) = some 0xF258#16 := by decide +kernel
/-- V2.2: only the last iteration sees a set bit 0. -/
theorem test_crcUpd_poly : after (exec (.crcUpd 0x80#8) { base with crc := 0x0000#16 }) (·.crc) = some 0x8408#16 := by
  decide +kernel
/-- V2.4. -/
theorem test_crcBlk : after (exec (.crcBlk [0x31#8, 0x32#8, 0x33#8, 0x34#8]) { base with crc := 0xFFFF#16 }) (·.crc) =
    some 0x8B13#16 := by decide +kernel
/-- V2.4: the second part from the first one's value. -/
theorem test_crcBlk_chained : after (exec (.crcBlk [0x35#8, 0x36#8, 0x37#8, 0x38#8, 0x39#8])
    { base with crc := 0x8B13#16 }) (·.crc) = some 0x6F91#16 := by decide +kernel
/-- V2.3. -/
theorem test_crcRead : after (exec .crcRead base) (·.outbox) =
    some [[0x00#8, 0x02#8, 0x00#8, 0x91#8, 0x6F#8]] := by decide +kernel
/-- V2.3: `fcs = 6E 90`, and the register is left alone. -/
theorem test_crcFcs : after (exec .crcFcs base) (fun t => (t.crc, t.outbox)) =
    some (0x6F91#16, [[0x00#8, 0x02#8, 0x00#8, 0x6E#8, 0x90#8]]) := by decide +kernel
/-- 40_crc.md R91. -/
theorem test_crcChk_good : after (exec .crcChk { base with crc := 0xF0B8#16 }) (·.outbox) =
    some [[0x00#8, 0x01#8, 0x00#8, 0x01#8]] := by decide +kernel
/-- V2.7: zero is not the residue. -/
theorem test_crcChk_zero : after (exec .crcChk { base with crc := 0x0000#16 }) (fun t => (t.err, t.outbox)) =
    some (0#8, [[0x00#8, 0x01#8, 0x00#8, 0x00#8]]) := by decide +kernel
/-- V3.1. -/
theorem test_frmEnc : after (exec (.frmEnc 0xCF#8 []) { base with seq := 1#1 })
    (fun t => (t.crc, t.seq, t.outbox)) =
    some (0x80C8#16, 1#1, [[0x00#8, 0x05#8, 0x00#8, 0x5A#8, 0xCF#8, 0x00#8, 0x37#8, 0x7F#8]]) := by decide +kernel
/-- V3.5. -/
theorem test_frmEnc_254 : after (exec (.frmEnc 0x00#8 (List.replicate 254 0#8)) base) (fun t => (t.crc, t.err, t.outbox))
    = some (0x6F91#16, 2#8, [[0x02#8, 0x00#8, 0x00#8]]) := by decide +kernel
/-- V3.10: the sum does not wrap. -/
theorem test_frmHdr : after (exec (.frmHdr 0x5A#8 0x00#8 0xFF#8) base) (·.outbox) =
    some [[0x00#8, 0x04#8, 0x00#8, 0x00#8, 0xFF#8, 0x01#8, 0x01#8]] := by decide +kernel
/-- V3.6. -/
theorem test_frmVal_good : after (exec (.frmVal goodFrame) base) (fun t => (t.crc, t.outbox)) =
    some (0xF0B8#16, [[0x00#8, 0x02#8, 0x00#8, 0x90#8, 0x00#8]]) := by decide +kernel
/-- V3.7. -/
theorem test_frmVal_bad : after (exec (.frmVal badFrame) base) (fun t => (t.crc, t.err, t.einfo, t.outbox)) =
    some (0xEC03#16, 3#8, 0xAF02#16, [[0x03#8, 0x02#8, 0x00#8, 0x02#8, 0xAF#8]]) := by decide +kernel
/-- V4.1 row 11. -/
theorem test_seqRst : after (exec .seqRst { base with seq := 1#1 }) (·.seq) = some 0#1 := by decide +kernel
/-- V4.1 rows 4 and 9. -/
theorem test_seqTgl : after (exec .seqTgl base) (·.seq) = some 1#1 ∧
    after (exec .seqTgl { base with seq := 1#1 }) (·.seq) = some 0#1 := by decide +kernel
/-- V4.1 row 7. -/
theorem test_seqRd : after (exec .seqRd { base with seq := 1#1 }) (·.outbox) =
    some [[0x00#8, 0x01#8, 0x00#8, 0x01#8]] := by decide +kernel
/-- V4.1 row 6. -/
theorem test_seqPcb : after (exec (.seqPcb 0x01#8) { base with seq := 1#1 }) (·.outbox) =
    some [[0x00#8, 0x01#8, 0x00#8, 0x60#8]] := by decide +kernel
/-- V4.1 row 13. -/
theorem test_seqPcb_2 : after (exec (.seqPcb 0x02#8) base) (fun t => (t.err, t.outbox)) =
    some (5#8, [[0x05#8, 0x00#8, 0x00#8]]) := by decide +kernel
/-- V5.2: the frame of `XCHG 0x40, []` and its raw CRC. -/
theorem test_xchg_starts : after (exec (.xchg 0x40#8 []) base) (fun t => (t.phase, t.txbuf, t.crc)) =
    some (.write, [0x5A#8, 0x40#8, 0x00#8, 0x33#8, 0x70#8], 0x8FCC#16) := by decide +kernel
/-- V5.6: step 1 runs before the length test. -/
theorem test_xchg_tooLong : after (exec (.xchg 0xCF#8 (List.replicate 254 0#8)) { base with seq := 1#1 })
    (fun t => (t.seq, t.crc, t.err)) = some (0#1, 0x6F91#16, 2#8) := by decide +kernel
/-- R141. -/
theorem test_pcbIblock : after (exec (.pcbIblock 0x40#8) base) (fun t => (t.seq, t.outbox)) = some (1#1, []) := by decide +kernel
/-- R133. -/
theorem test_pcbReset : after (exec .pcbReset { base with seq := 1#1 }) (·.seq) = some 0#1 := by decide +kernel
/-- R137 with a sink attached (V5.11). -/
theorem test_pcbChain : after (exec (.pcbChain 0x20#8) { base with cfg := { base.cfg with sink := true } }) (·.diag) =
    some [.chainSeen 0x20#8] := by decide +kernel
/-- V5.1, whole. -/
theorem test_xchg_whole : (fun t : State => (t.outbox, t.seq, t.crc, t.events.length))
    (xchgWhole 0x00#8 [0x00#8, 0xA4#8, 0x04#8, 0x00#8, 0x00#8] { base with
      answers := [.ok [], .ok [0xA5#8, 0x00#8, 0x02#8], .ok [0x90#8, 0x00#8, 0x02#8, 0xAF#8]] }) =
    ([[0x00#8, 0x02#8, 0x00#8, 0x90#8, 0x00#8]], 1#1, 0xF0B8#16, 3) := by decide +kernel
/-- 30_encoding.md R67: the text of an operation. -/
theorem test_asm : (Instr.frmHdr 0xA5#8 0x00#8 0x02#8).asm = "FRM.HDR 0xA5, 0x00, 0x02".toList ∧
    (Instr.crcBlk [0x31#8, 0x32#8]).asm = "CRC.BLK [31 32]".toList := by decide +kernel

/-! ### Witnesses: for each statement with hypotheses, a state and operands that meet them -/

/-- A frame that is complete for a node address. -/
theorem test_completeFrame : completeFrame 0x5A#8 [0x5A#8, 0x40#8, 0x00#8, 0x33#8, 0x70#8] := by
  unfold completeFrame; decide +kernel

/-- `StepKeepsInvariant`: an exchange in progress, and its next state. -/
theorem test_witness_StepKeepsInvariant :
    Inv (running .write [.ok []]) ∧ ∃ t, step (running .write [.ok []]) = .next t := by
  refine ⟨⟨by decide, fun _ => rfl, by decide, fun _ => by decide, .inr test_completeFrame,
    fun _ => ⟨test_completeFrame, by decide +kernel⟩, .inr rfl, fun h => (by cases h), by decide, ?_, ?_⟩, _, rfl⟩
  · intro e he; cases he
  · intro r hr; cases hr

/-- `RdregReadsRegisters`: the last register, and the first and last unknown ones. -/
theorem test_witness_RdregReadsRegisters : (3#8 : Byte) ≤ 3#8 ∧ (3#8 : Byte) < 4#8 ∧ (3#8 : Byte) < 255#8 := by decide

/-- Data of the longest length the formats carry (`CrcBlkFoldsData`, `FrmEncBuildsFrame`, `FrmValValidatesFrame`,
`XchgStartsExchange`). -/
theorem test_witness_longest_data : (List.replicate 65535 0#8).length ≤ 65535 := by
  rw [List.length_replicate]

/-- `CrcBlkFoldsData`: two blocks one after another, and their concatenation. -/
theorem test_witness_CrcBlkFoldsData : ∃ t u v, exec (.crcBlk [0x31#8]) base = .next t ∧
    exec (.crcBlk [0x32#8]) t = .next u ∧ exec (.crcBlk ([0x31#8] ++ [0x32#8])) base = .next v := ⟨_, _, _, rfl, rfl, rfl⟩

/-- `CrcFcsReturnsComplement`: the two byte steps. -/
theorem test_witness_CrcFcsReturnsComplement : ∃ t u,
    exec (.crcUpd (lowByte (base.crc ^^^ 0xFFFF#16))) base = .next t ∧
    exec (.crcUpd (highByte (base.crc ^^^ 0xFFFF#16))) t = .next u := ⟨_, _, rfl, rfl⟩

/-- `CrcChkComparesResidue`: the residue, and a value one bit away. -/
theorem test_witness_CrcChkComparesResidue :
    ({ base with crc := 0xF0B8#16 } : State).crc = 0xF0B8#16 ∧ ({ base with crc := 0xF0B9#16 } : State).crc ≠ 0xF0B8#16 := by
  decide

/-- `FrmEncBuildsFrame`, `XchgStartsExchange`: the shortest payload refused, and the longest one accepted with its head
and its CRC. -/
theorem test_witness_payload_bounds : 254 ≤ (List.replicate 254 0#8).length ∧ (List.replicate 253 0#8).length ≤ 253 ∧
    ∃ (hd : Bytes) (c : Half), hd = [base.cfg.nad, 0x40#8, BitVec.ofNat 8 (List.replicate 253 0#8).length]
      ++ List.replicate 253 0#8 ∧ c = crc16 hd 0xFFFF#16 ∧
      ∃ f : Bytes, f = hd ++ [lowByte (c ^^^ 0xFFFF#16), highByte (c ^^^ 0xFFFF#16)] := by
  rw [List.length_replicate, List.length_replicate]
  exact ⟨by decide, by decide, _, _, rfl, rfl, _, rfl⟩

/-- `FrmValValidatesFrame`: too short; the wrong length; a bad checksum; the shortest good frame (V3.8). -/
theorem test_witness_FrmValValidatesFrame :
    ([0xA5#8, 0x00#8, 0x00#8, 0xA6#8] : Bytes).length < 5 ∧
    ([0xA5#8, 0x00#8, 0x01#8, 0xA6#8, 0xF0#8] : Bytes).length ≠ (([0xA5#8, 0x00#8, 0x01#8, 0xA6#8, 0xF0#8] : Bytes).getD 2 0#8).toNat + 5 ∧
    (5 ≤ badFrame.length ∧ badFrame.length = (badFrame.getD 2 0#8).toNat + 5 ∧ crc16 badFrame 0xFFFF#16 ≠ 0xF0B8#16) ∧
    (5 ≤ ([0xA5#8, 0x00#8, 0x00#8, 0xA6#8, 0xF0#8] : Bytes).length ∧
      ([0xA5#8, 0x00#8, 0x00#8, 0xA6#8, 0xF0#8] : Bytes).length =
        (([0xA5#8, 0x00#8, 0x00#8, 0xA6#8, 0xF0#8] : Bytes).getD 2 0#8).toNat + 5 ∧
      crc16 [0xA5#8, 0x00#8, 0x00#8, 0xA6#8, 0xF0#8] 0xFFFF#16 = 0xF0B8#16) := by decide +kernel

/-- `SeqTglFlips`: two flips. -/
theorem test_witness_SeqTglFlips : ∃ t u, exec .seqTgl base = .next t ∧ exec .seqTgl t = .next u := ⟨_, _, rfl, rfl⟩

/-- `SeqPcbBuildsPcb`: the first and last operands with reserved bits. -/
theorem test_witness_SeqPcbBuildsPcb : (1#8 : Byte) < 2#8 ∧ (1#8 : Byte) < 255#8 := by decide

/-- The rows of R143 on an error: attempts left, and the last one. -/
theorem test_witness_rows_error (p : Phase) (e : TErr) :
    takeAnswer (running p [.err e]) = (.err e, running p []) ∧
    (running p [.err e]).att + 1 < (running p [.err e]).cfg.maxAtt.n ∧
    ({ running p [.err e] with att := 2 } : State).att + 1 = ({ running p [.err e] with att := 2 } : State).cfg.maxAtt.n :=
  ⟨rfl, show 0 + 1 < 3 by decide, rfl⟩

/-- `ExchangeWriteRows`: an `ok` answer. -/
theorem test_witness_ExchangeWriteRows : (running .write [.ok []]).phase = .write ∧
    takeAnswer (running .write [.ok []]) = (.ok [], running .write []) := ⟨rfl, rfl⟩

/-- `ExchangeHeaderRows`: three bytes, and one too few. -/
theorem test_witness_ExchangeHeaderRows : (running .rdhdr []).phase = .rdhdr ∧
    takeAnswer (running .rdhdr [.ok [0xA5#8, 0x00#8, 0x02#8]]) = (.ok [0xA5#8, 0x00#8, 0x02#8], running .rdhdr []) ∧
    ([0xA5#8, 0x00#8, 0x02#8] : Bytes).length = 3 ∧ ([0xA5#8, 0x00#8] : Bytes).length ≠ 3 := ⟨rfl, rfl, rfl, by decide⟩

/-- `ExchangeBodyRows` with declared length 0: the right checksum, a wrong one, one byte too many. -/
theorem test_witness_ExchangeBodyRows : (running .rdbody []).phase = .rdbody ∧
    takeAnswer (running .rdbody [.ok [0xA6#8, 0xF0#8]]) = (.ok [0xA6#8, 0xF0#8], running .rdbody []) ∧
    0 = ((running .rdbody []).rxhdr.getD 2 0#8).toNat ∧
    crc16 [0xA6#8, 0xF0#8] (crc16 (running .rdbody []).rxhdr 0xFFFF#16) = 0xF0B8#16 ∧
    crc16 [0xA6#8, 0xF1#8] (crc16 (running .rdbody []).rxhdr 0xFFFF#16) ≠ 0xF0B8#16 ∧
    ([0xA6#8, 0xF0#8, 0x00#8] : Bytes).length ≠ 0 + 2 := by
  refine ⟨rfl, rfl, rfl, ?_, ?_, ?_⟩ <;> decide +kernel

/-- `ExchangeFinalState`, `ExchangeBoundsPortCalls`: exchanges that end with each status, 0 to 4 (V5.2, V5.3, V5.6,
V5.8(a)). -/
theorem test_witness_exchange_outcomes :
    (xchgWhole 0x40#8 [] { base with answers := [.ok [], .ok [0xA5#8, 0x00#8, 0x00#8], .ok [0xA6#8, 0xF0#8]] }).err = 0#8 ∧
    (xchgWhole 0x40#8 [] { base with answers := [.err (fail 1#8), .err (fail 2#8), .err (fail 3#8)] }).err = 1#8 ∧
    (xchgWhole 0x40#8 (List.replicate 254 0#8) base).err = 2#8 ∧
    (xchgWhole 0x40#8 [] { base with answers := [.ok [], .ok [0xA5#8, 0x00#8, 0x00#8], .ok [0xA6#8, 0xF1#8]] }).err = 3#8 ∧
    (xchgWhole 0x40#8 [] { base with answers := [.ok [], .ok [0xA5#8, 0x00#8]] }).err = 4#8 := by
  refine ⟨?_, ?_, ?_, ?_, ?_⟩ <;> decide +kernel

/-- `ExchangeSucceedsInThreeCalls`: the longest payload, and the shortest response. -/
theorem test_witness_ExchangeSucceedsInThreeCalls : ∃ s : State,
    (List.replicate 253 0#8).length ≤ 253 ∧
    s.answers = .ok [] :: .ok [0xA5#8, 0x00#8, 0x00#8] :: .ok [0xA6#8, 0xF0#8] :: [] ∧
    ([0xA5#8, 0x00#8, 0x00#8] : Bytes).length = 3 ∧ 0 = (([0xA5#8, 0x00#8, 0x00#8] : Bytes).getD 2 0#8).toNat ∧
    ([0xA6#8, 0xF0#8] : Bytes).length = 0 + 2 ∧
    crc16 [0xA6#8, 0xF0#8] (crc16 [0xA5#8, 0x00#8, 0x00#8] 0xFFFF#16) = 0xF0B8#16 ∧ s.cfg.sink = false := by
  refine ⟨{ base with answers := [.ok [], .ok [0xA5#8, 0x00#8, 0x00#8], .ok [0xA6#8, 0xF0#8]] }, ?_, rfl, rfl, rfl, rfl, ?_, rfl⟩
  · rw [List.length_replicate]
  · decide +kernel

/-- `RetryCountsAttempts`: the most failures before a success, and as many failures as the budget has. -/
theorem test_witness_RetryCountsAttempts : ∃ s s' : State,
    (([fail 1#8, fail 2#8] : List TErr).length < s.cfg.maxAtt.n ∧
      s.answers = [fail 1#8, fail 2#8].map PortAnswer.err ++ .ok [] :: []) ∧
    (([fail 1#8, fail 2#8] : List TErr).length + 1 = s'.cfg.maxAtt.n ∧
      s'.answers = [fail 1#8, fail 2#8].map PortAnswer.err ++ .err (fail 3#8) :: []) :=
  ⟨{ base with answers := [.err (fail 1#8), .err (fail 2#8), .ok []] },
    { base with answers := [.err (fail 1#8), .err (fail 2#8), .err (fail 3#8)] }, ⟨by decide, rfl⟩, by decide, rfl⟩

/-- `PcbRowsActAsExchangeSteps`: PCBs at the bounds of the classes, with and without a sink. -/
theorem test_witness_PcbRowsActAsExchangeSteps :
    base.cfg.iblock.has 0x7F#8 = true ∧ base.cfg.iblock.has 0x80#8 = false ∧ base.cfg.chain.has 0x20#8 = true ∧
    ({ base with cfg := { base.cfg with sink := true } } : State).cfg.sink = true ∧
    base.cfg.chain.has 0x1F#8 = false ∧ base.cfg.sink = false := by decide +kernel

/-- `ResidueLaw`: a message and its CRC (V2.3). -/
theorem test_witness_ResidueLaw :
    0x6F91#16 = crc16 [0x31#8, 0x32#8, 0x33#8, 0x34#8, 0x35#8, 0x36#8, 0x37#8, 0x38#8, 0x39#8] 0xFFFF#16 := by
  decide +kernel

/-- `FrameCheckIffChecksum`: the shortest remainder. -/
theorem test_witness_FrameCheckIffChecksum :
    ([0xA5#8, 0x00#8, 0x00#8] : Bytes).length = 3 ∧ 2 ≤ ([0xA6#8, 0xF0#8] : Bytes).length := by decide

/-- `AdjacentCorruptionDetected`: a good frame, one byte changed, and each of two adjacent bytes changed (V3.7). -/
theorem test_witness_AdjacentCorruptionDetected :
    crc16 ([0xA5#8, 0x00#8, 0x02#8] ++ 0x90#8 :: [0x00#8, 0x02#8, 0xAF#8]) 0xFFFF#16 = 0xF0B8#16 ∧ (0x91#8 : Byte) ≠ 0x90#8 ∧
    crc16 ([0xA5#8, 0x00#8, 0x02#8] ++ 0x90#8 :: 0x00#8 :: [0x02#8, 0xAF#8]) 0xFFFF#16 = 0xF0B8#16 ∧
    ((0x91#8 : Byte) ≠ 0x90#8 ∨ (0x01#8 : Byte) ≠ 0x00#8) := by decide +kernel

/-- `SequenceBitWriters`: a command that changes the bit, and an exchange that ends by changing it. -/
theorem test_witness_SequenceBitWriters :
    (∃ t, step { base with inbox := [[0x31#8]] } = .next t ∧ t.seq ≠ ({ base with inbox := [[0x31#8]] } : State).seq) ∧
    ∃ t, step (running .rdbody [.ok [0xA6#8, 0xF0#8]]) = .next t ∧ t.seq ≠ (running .rdbody [.ok [0xA6#8, 0xF0#8]]).seq :=
  ⟨⟨_, rfl, by decide +kernel⟩, _, rfl, by decide +kernel⟩

/-- `AccumulatorWriters`: a command that changes `CRC`, and validations that change it and end with status 0 and 3. -/
theorem test_witness_AccumulatorWriters :
    (∃ t, step { base with inbox := [[0x10#8, 0x00#8, 0x00#8]] } = .next t ∧
      t.crc ≠ ({ base with inbox := [[0x10#8, 0x00#8, 0x00#8]] } : State).crc) ∧
    (∃ t, step (running .rdbody [.ok [0xA6#8, 0xF0#8]]) = .next t ∧
      t.crc ≠ (running .rdbody [.ok [0xA6#8, 0xF0#8]]).crc ∧ t.err = 0#8) ∧
    ∃ t, step (running .rdbody [.ok [0xA6#8, 0xF1#8]]) = .next t ∧
      t.crc ≠ (running .rdbody [.ok [0xA6#8, 0xF1#8]]).crc ∧ t.err = 3#8 := by
  refine ⟨⟨_, rfl, ?_⟩, ⟨_, rfl, ?_, ?_⟩, _, rfl, ?_, ?_⟩ <;> decide +kernel

/-- `OneResponsePerCommand`: no command; a command that completes; one that only starts; an exchange that ends while an
`RDREG` waits, which is not the message taken; a legal `RDREG` while `ERR` is not 0. -/
theorem test_witness_OneResponsePerCommand :
    (base.phase = .idle ∧ base.inbox = [] ∧ ∃ t, step base = .next t) ∧
    (∃ t, step { base with inbox := [[0x00#8]] } = .next t ∧ t.phase = .idle) ∧
    (∃ t, step { base with inbox := [[0x40#8, 0x40#8, 0x00#8, 0x00#8]] } = .next t ∧ t.phase ≠ .idle) ∧
    (∃ t, step { running .rdbody [.ok [0xA6#8, 0xF0#8]] with inbox := [[0x01#8, 0x02#8]] } = .next t ∧ t.phase = .idle) ∧
    (3#8 : Byte) ≤ 3#8 ∧ ∃ t, step { base with err := 5#8, inbox := [[0x01#8, 0x03#8]] } = .next t ∧ t.phase = .idle ∧ t.err = 5#8 :=
  ⟨⟨rfl, rfl, _, rfl⟩, ⟨_, rfl, by decide +kernel⟩, ⟨_, rfl, by decide +kernel⟩, ⟨_, rfl, by decide +kernel⟩,
    by decide, _, rfl, by decide +kernel, by decide +kernel⟩

/-- `ConfigurationNeverChanges`, `PortOnlyDuringExchange`: an operation other than `SRESET`, and a step in a phase. -/
theorem test_witness_PortOnlyDuringExchange : (∃ t, exec .nop base = .next t) ∧ Instr.nop ≠ Instr.sreset ∧
    (∃ t, step (running .rdhdr []) = .next t) ∧ (running .rdhdr []).phase ≠ .idle :=
  ⟨⟨_, rfl⟩, by decide, ⟨_, rfl⟩, by decide⟩

/-- `SinkIsInert`: a header read with and without a sink. -/
theorem test_witness_SinkIsInert : ∃ t t', step (running .rdhdr [.ok [0xA5#8, 0x20#8, 0x02#8]]) = .next t ∧
    step ({ running .rdhdr [.ok [0xA5#8, 0x20#8, 0x02#8]] with
      cfg := { (running .rdhdr [.ok [0xA5#8, 0x20#8, 0x02#8]]).cfg with sink := true }, diag := [] }) = .next t' :=
  ⟨_, _, rfl, rfl⟩

/-- `HiddenBuffersInvisible`: a command that completes and one that starts an exchange, from other buffer contents. -/
theorem test_witness_HiddenBuffersInvisible : base.phase = .idle ∧
    (∃ t t', step { base with inbox := [[0x00#8]] } = .next t ∧
      step { base with inbox := [[0x00#8]], att := 2, txbuf := [0x01#8] } = .next t') ∧
    ∃ t t', step { base with inbox := [[0x40#8, 0x40#8, 0x00#8, 0x00#8]] } = .next t ∧ t.phase ≠ .idle ∧
      step { base with inbox := [[0x40#8, 0x40#8, 0x00#8, 0x00#8]], att := 2, txbuf := [0x01#8] } = .next t' :=
  ⟨rfl, ⟨_, _, rfl, rfl⟩, _, _, rfl, by decide +kernel, rfl⟩

/-- `IllegalMessagesRefused`: an empty message first in the queue of a ready block. -/
theorem test_witness_IllegalMessagesRefused : ({ base with inbox := [[]] } : State).phase = .idle ∧
    ({ base with inbox := [[]] } : State).inbox = [] :: [] ∧ decode [] = .error .emptyMessage := ⟨rfl, rfl, rfl⟩

/-- `DecodeOfEncode`: the longest data; a command at each bound of its operand. -/
theorem test_witness_DecodeOfEncode : (Instr.xchg 0xFF#8 (List.replicate 65535 0#8)).wf = true ∧
    (Instr.xchg 0xFF#8 (List.replicate 65535 0#8)).isCommand = true ∧
    (Instr.rdreg 0x03#8).wf = true ∧ (Instr.seqPcb 0x01#8).wf = true := by
  refine ⟨?_, rfl, by decide, by decide⟩
  simp only [Instr.wf, dataFits, List.length_replicate]; decide

/-- `EncodeOfDecode`: a message with the shortest data. -/
theorem test_witness_EncodeOfDecode : decode [0x12#8, 0x00#8, 0x00#8] = .ok (.crcBlk []) := rfl

/-- `StepRunsDecodedCommand`: a ready block whose first message is a command. -/
theorem test_witness_StepRunsDecodedCommand : ({ base with inbox := [[0x31#8]] } : State).phase = .idle ∧
    ({ base with inbox := [[0x31#8]] } : State).inbox = [0x31#8] :: [] ∧ decode [0x31#8] = .ok .seqTgl := ⟨rfl, rfl, rfl⟩

/-- `PlacedInstructionRunsNext`: a word of 8 bits. -/
theorem test_witness_PlacedInstructionRunsNext : decodeTableWord 8 0x31 = some .seqTgl := rfl

/-- `PseudoCrcContracts`: an operation of each list. -/
theorem test_witness_PseudoCrcContracts :
    Instr.crcRead ∈ pseudoCrc16 [0x31#8] 0xFFFF#16 ∧ Instr.crcBlk [0x31#8] ∈ pseudoFcs16 [0x31#8] := by decide

/-- V4.1 row 5 and V5.2: with `SEQ = 1`, `SEQ.PCB 0` returns 0x40 and the frame carries it. -/
theorem test_ixchg : after (execIxchg [] { base with seq := 1#1 }) (fun t => (t.outbox, t.txbuf, t.phase)) =
    some ([[0x00#8, 0x01#8, 0x00#8, 0x40#8]], [0x5A#8, 0x40#8, 0x00#8, 0x33#8, 0x70#8], .write) := by decide +kernel

/-- `IxchgSendsCurrentBit`: an exchange that succeeds and one that does not, and payloads at both bounds. -/
theorem test_witness_IxchgSendsCurrentBit :
    (0x00#8 : Byte) = (if base.seq = 0#1 then 0x00#8 else 0x40#8) ∧
    (xchgWhole 0x00#8 [] { base with err := 0#8, einfo := 0#16, outbox := base.outbox ++ [[0#8, 1#8, 0#8, 0x00#8]]
                                     answers := [.ok [], .ok [0xA5#8, 0x00#8, 0x00#8], .ok [0xA6#8, 0xF0#8]] }).err = 0#8 ∧
    (xchgWhole 0x00#8 [] { base with err := 0#8, einfo := 0#16, outbox := base.outbox ++ [[0#8, 1#8, 0#8, 0x00#8]]
                                     answers := [.ok [], .ok [0xA5#8, 0x00#8]] }).err ≠ 0#8 ∧
    (List.replicate 253 0#8).length ≤ 253 ∧ (List.replicate 65535 0#8).length ≤ 65535 := by
  rw [List.length_replicate, List.length_replicate]
  refine ⟨?_, ?_, ?_, by decide, by decide⟩ <;> decide +kernel

/-- `ResetxForcesBit`: the raw CRC of the reset frame (V3.1). -/
theorem test_witness_ResetxForcesBit : 0x80C8#16 = crc16 [base.cfg.nad, 0xCF#8, 0x00#8] 0xFFFF#16 := by decide +kernel

end Sys2Proof.Tests
end

section
/-! The reset state. -/

namespace Sys2Proof.Machine

/-- Settles O1: the fields of `State.reset`, each by its definition. -/
theorem resetStateValues : Obligations.ResetStateValues := by
  unfold Obligations.ResetStateValues
  exact ⟨rfl, rfl, rfl, rfl, rfl, rfl, rfl, rfl, rfl⟩

end Sys2Proof.Machine
end

section
/-! The residue law of the frame checksum (40_crc.md R84), and with it that every frame the encoder builds is complete.
-/

namespace Sys2Proof.Machine

theorem crc16_append (d e : Bytes) (c : Half) : crc16 (d ++ e) c = crc16 e (crc16 d c) :=
  List.foldl_append

/-- The inner loop's iteration is linear over exclusive or. -/
theorem crcShift_xor (x y : Half) : crcShift (x ^^^ y) = crcShift x ^^^ crcShift y := by
  cases hx : x[0] <;> cases hy : y[0] <;> simp [crcShift, hx, hy, BitVec.ushiftRight_xor_distrib]
  · ac_rfl
  · ac_rfl
  · rw [BitVec.xor_assoc, BitVec.xor_comm (y >>> 1), ← BitVec.xor_assoc POLY, BitVec.xor_self, BitVec.zero_xor]

theorem crcShifts_xor (k : Nat) (x y : Half) : crcShifts k (x ^^^ y) = crcShifts k x ^^^ crcShifts k y := by
  induction k generalizing x y with
  | zero => rfl
  | succ k ih => simp only [crcShifts, crcShift_xor, ih]

/-- On a value whose low bits are 0 the inner loop only shifts. -/
theorem crcShifts_of_low_zero (k : Nat) (x : Half) (h : ∀ i < k, x.getLsbD i = false) : crcShifts k x = x >>> k := by
  induction k generalizing x with
  | zero => simp [crcShifts]
  | succ k ih =>
    have hshift : crcShift x = x >>> 1 := by rw [crcShift, h 0 (by omega)]; rfl
    have hlow : ∀ i < k, (x >>> 1).getLsbD i = false := fun i hi => by simpa using h (1 + i) (by omega)
    rw [crcShifts, hshift, ih _ hlow, ← BitVec.shiftRight_add, Nat.add_comm]

/-- The accumulator after a byte that is the complement of its own low byte: its high byte, and a constant. -/
theorem crcByte_lo8_not (c : Half) : crcByte c (lo8 (~~~c)) = c >>> 8 ^^^ crcShifts 8 0x00FF#16 := by
  have hsplit : c ^^^ (lo8 (~~~c)).zeroExtend 16 = (c >>> 8 <<< 8) ^^^ 0x00FF#16 := by
    ext i hi
    simp [lo8]
    interval_cases i <;> simp
  have hlow : crcShifts 8 (c >>> 8 <<< 8) = c >>> 8 := by
    rw [crcShifts_of_low_zero 8 _ (fun i hi => by simp [hi])]
    ext i hi
    simpa using BitVec.lt_of_getLsbD
  rw [crcByte, hsplit, crcShifts_xor, hlow]

/-- The two checksum bytes of an accumulator leave the residue in it (40_crc.md R84). -/
theorem crc16_fcsOf (c : Half) : crc16 (fcsOf c) c = RESIDUE := by
  have hhigh : (c >>> 8 ^^^ crcShifts 8 0x00FF#16) ^^^ (hi8 (~~~c)).zeroExtend 16 =
      0x00FF#16 ^^^ crcShifts 8 0x00FF#16 := by
    have hbyte : c >>> 8 ^^^ (hi8 (~~~c)).zeroExtend 16 = 0x00FF#16 := by
      ext i hi
      simp [hi8]
      interval_cases i <;> simp
    rw [BitVec.xor_assoc, BitVec.xor_comm (crcShifts 8 _), ← BitVec.xor_assoc, hbyte]
  calc crc16 (fcsOf c) c
      = crcByte (crcByte c (lo8 (~~~c))) (hi8 (~~~c)) := rfl
    _ = crcShifts 8 (0x00FF#16 ^^^ crcShifts 8 0x00FF#16) := by rw [crcByte_lo8_not, crcByte, hhigh]
    _ = RESIDUE := by decide +kernel

theorem crc16_append_fcs (d : Bytes) : crc16 (d ++ fcs d) SEED0 = RESIDUE := by
  rw [crc16_append, fcs, crc16_fcsOf]

/-- What the encoder builds of a payload that fits is a complete frame (41_frame_codec.md R100). -/
theorem completeFrame_encoded {nad pcb : Byte} {d : Bytes} (h : d.length ≤ 253) :
    completeFrame nad (frameHead nad pcb d ++ fcs (frameHead nad pcb d)) := by
  refine ⟨by simp, by simp; omega, rfl, ?_, crc16_append_fcs _⟩
  have hlen : d.length % 256 = d.length := Nat.mod_eq_of_lt (by omega)
  simp [frameHead, hlen]

end Sys2Proof.Machine
end

section
/-! What a step and the branching operations can answer, said once: the inversions that the proofs about every step
use. -/

namespace Sys2Proof.Machine

/-! ### The step -/

theorem step_nothing {s : State} (hp : s.phase = .idle) (hi : s.inbox = []) : step s = .next s := by
  simp [step, hp, fetch, hi]

theorem step_command {s : State} {m : Bytes} {rest : List Bytes} {i : Instr} (hp : s.phase = .idle)
    (hi : s.inbox = m :: rest) (hd : decode m = .ok i) : step s = exec i (dropCommand rest s) := by
  simp [step, hp, fetch, hi, hd]

theorem step_illegal {s : State} {m : Bytes} {rest : List Bytes} {e : DecodeError} (hp : s.phase = .idle)
    (hi : s.inbox = m :: rest) (hd : decode m = .error e) :
    step s = .next (raise .illegalCommand (dropCommand rest s)) := by
  simp [step, hp, fetch, hi, hd, illegalStep]

theorem step_exchange {s : State} (hp : s.phase ≠ .idle) : step s = .next (exchangeStep s) := by
  unfold step
  split
  · next h => exact absurd h hp
  all_goals rfl

/-- A step holds, runs the command it takes, refuses the message it takes, or makes one port call of the exchange. -/
theorem step_cases {s t : State} (h : step s = .next t) :
    (s.phase = .idle ∧ s.inbox = [] ∧ t = s) ∨
    (s.phase = .idle ∧ ∃ m rest i, s.inbox = m :: rest ∧ decode m = .ok i ∧ exec i (dropCommand rest s) = .next t) ∨
    (s.phase = .idle ∧ ∃ m rest e, s.inbox = m :: rest ∧ decode m = .error e ∧
      t = raise .illegalCommand (dropCommand rest s)) ∨
    (s.phase ≠ .idle ∧ t = exchangeStep s) := by
  by_cases hp : s.phase = .idle
  · obtain ⟨hi, -⟩ | ⟨m, rest, i, hi, hd, -⟩ | ⟨m, rest, e, hi, hd, -⟩ := fetch_cases s
    · cases (step_nothing hp hi).symm.trans h
      exact .inl ⟨hp, hi, rfl⟩
    · exact .inr (.inl ⟨hp, m, rest, i, hi, hd, step_command hp hi hd ▸ h⟩)
    · cases (step_illegal hp hi hd).symm.trans h
      exact .inr (.inr (.inl ⟨hp, m, rest, e, hi, hd, rfl⟩))
  · cases (step_exchange hp).symm.trans h
    exact .inr (.inr (.inr ⟨hp, rfl⟩))

/-! ### Commands with more than one outcome -/

theorem execRdreg_known {r : Byte} {s : State} {v : Half} (h : readReg s r = some v) :
    execRdreg r s = .next (respond 0#8 (le16 v) s) := by
  simp [execRdreg, h]

theorem execRdreg_unknown {r : Byte} {s : State} (h : readReg s r = none) :
    execRdreg r s = .next (raise .illegalCommand s) := by
  simp [execRdreg, h]

theorem execRdreg_cases (r : Byte) (s : State) :
    (∃ v, readReg s r = some v ∧ execRdreg r s = .next (respond 0#8 (le16 v) s)) ∨
    (readReg s r = none ∧ execRdreg r s = .next (raise .illegalCommand s)) := by
  cases h : readReg s r with
  | some v => exact .inl ⟨v, rfl, execRdreg_known h⟩
  | none => exact .inr ⟨rfl, execRdreg_unknown h⟩

theorem execFrmEnc_tooLong {pcb : Byte} {d : Bytes} {s : State} (h : 254 ≤ d.length) :
    execFrmEnc pcb d s = .next (raise .frameTooLong s) := by
  simp [execFrmEnc, encodeFrame_tooLong h]

theorem execFrmEnc_fits {pcb : Byte} {d : Bytes} {s : State} (h : d.length ≤ 253) :
    execFrmEnc pcb d s = .next (complete (frameHead s.cfg.nad pcb d ++ fcs (frameHead s.cfg.nad pcb d))
      (holdFrame (crc16 (frameHead s.cfg.nad pcb d) SEED0)
        (frameHead s.cfg.nad pcb d ++ fcs (frameHead s.cfg.nad pcb d)) s)) := by
  simp [execFrmEnc, encodeFrame_fits h]

theorem execFrmEnc_cases (pcb : Byte) (d : Bytes) (s : State) :
    (254 ≤ d.length ∧ execFrmEnc pcb d s = .next (raise .frameTooLong s)) ∨
    (d.length ≤ 253 ∧ execFrmEnc pcb d s = .next
      (complete (frameHead s.cfg.nad pcb d ++ fcs (frameHead s.cfg.nad pcb d))
        (holdFrame (crc16 (frameHead s.cfg.nad pcb d) SEED0)
          (frameHead s.cfg.nad pcb d ++ fcs (frameHead s.cfg.nad pcb d)) s))) := by
  obtain h | h : 254 ≤ d.length ∨ d.length ≤ 253 := by omega
  · exact .inl ⟨h, execFrmEnc_tooLong h⟩
  · exact .inr ⟨h, execFrmEnc_fits h⟩

theorem execXchg_tooLong {pcb : Byte} {d : Bytes} {s : State} (h : 254 ≤ d.length) :
    execXchg pcb d s = .next (raise .frameTooLong (seqOnRequest pcb s)) := by
  simp [execXchg, buildRequest_tooLong h]

theorem execXchg_fits {pcb : Byte} {d : Bytes} {s : State} (h : d.length ≤ 253) :
    execXchg pcb d s = .next (enterPhase .write (holdFrame (crc16 (frameHead s.cfg.nad pcb d) SEED0)
      (frameHead s.cfg.nad pcb d ++ fcs (frameHead s.cfg.nad pcb d)) (seqOnRequest pcb s))) := by
  simp [execXchg, buildRequest_fits h]

theorem execFrmVal_cases (d : Bytes) (s : State) :
    execFrmVal d s = .next (raise .malformedResponse s) ∨
    (∃ x y, execFrmVal d s = .next (raise (.crcError x y) (setCrc (validate (d.take 3) (d.drop 3)) s))) ∨
    execFrmVal d s = .next
      (complete ((d.drop 3).take (headerLen d)) (setCrc (validate (d.take 3) (d.drop 3)) s)) := by
  unfold execFrmVal
  split
  · exact .inl rfl
  · split
    · exact .inl rfl
    · split
      · exact .inr (.inl ⟨_, _, rfl⟩)
      · exact .inr (.inr rfl)

theorem execSeqPcb_cases (m : Byte) (s : State) :
    execSeqPcb m s = .next (complete [iblockPcb s.seq (m.extractLsb' 0 1)] s) ∨
    execSeqPcb m s = .next (raise .illegalCommand s) := by
  unfold execSeqPcb
  split
  · exact .inl rfl
  · exact .inr rfl

/-! ### Rows of the exchange -/

/-- A validation raises `CRCError` or completes; either way `CRC` keeps its value (43_transaction.md R139 to R141). -/
theorem settleExchange_cases (s : State) :
    (∃ x y, settleExchange s = raise (.crcError x y) (setCrc (validate s.rxhdr s.rxbuf) s)) ∨
    settleExchange s = complete (s.rxbuf.take (headerLen s.rxhdr))
      (setPhase .idle (seqOnSuccess (requestPcb s) (setCrc (validate s.rxhdr s.rxbuf) s))) := by
  by_cases h : validate s.rxhdr s.rxbuf = RESIDUE
  · exact .inr (by rw [settleExchange_good h, h])
  · exact .inl ⟨_, _, settleExchange_bad h⟩

/-- `portStep_cases` with the state after the call written as `(callPort op s).2`, so that the laws of `callPort`
apply. -/
theorem portStep_answers (op : PortOp) (onOk : Bytes → State → State) (s : State) :
    (∃ v, (callPort op s).1 = .ok v ∧ portStep op onOk s = onOk v (callPort op s).2) ∨
    (s.att + 1 < s.cfg.maxAtt.n ∧ portStep op onOk s = waitDelay (callPort op s).2) ∨
    (∃ e, portStep op onOk s = raise (.transportError e) (callPort op s).2) := by
  have hatt : (callPort op s).2.att = s.att + 1 := callPort_att op s
  have hcfg : (callPort op s).2.cfg = s.cfg := callPort_cfg op s
  obtain ⟨v, t, hc, hs⟩ | ⟨e, t, hc, hlt, hs⟩ | ⟨e, t, hc, -, hs⟩ := portStep_cases op onOk s
  all_goals rw [hc] at hatt hcfg ⊢
  · exact .inl ⟨v, rfl, hs⟩
  · exact .inr (.inl ⟨by rwa [hatt, hcfg] at hlt, hs⟩)
  · exact .inr (.inr ⟨e, hs⟩)

theorem headerRead_cases (v : Bytes) (s : State) :
    headerRead v s = raise .malformedResponse s ∨
    (v.length = 3 ∧ headerRead v s = enterPhase .rdbody (chainDiagnostic (headerPcb v) (holdHeader v s))) := by
  by_cases h : v.length = 3
  · exact .inr ⟨h, headerRead_read h⟩
  · exact .inl (headerRead_malformed h)

theorem bodyRead_cases (v : Bytes) (s : State) :
    bodyRead v s = raise .malformedResponse s ∨
    (v.length = headerLen s.rxhdr + 2 ∧ bodyRead v s = settleExchange (holdBody v s)) := by
  by_cases h : v.length = headerLen s.rxhdr + 2
  · exact .inr ⟨h, bodyRead_read h⟩
  · exact .inl (bodyRead_malformed h)

end Sys2Proof.Machine
end

section
/-! Every step keeps the invariant: what each shared operation needs to keep `Inv`, then the commands, then the rows of
the exchange. A failing operation ends in `IDLE`, so its premise is `Inv` of the state seen in `IDLE`
(`Inv (setPhase .idle s)`), which holds also where the attempt budget is used up. -/

namespace Sys2Proof.Machine

/-! ### What the invariant speaks of -/

/-- The state with every field that `Inv` does not mention at a fixed value. -/
def invPart (s : State) : State :=
  { s with seq := 0#1, diag := [], inbox := [], answers := [], draws := 0, waits := 0 }

theorem inv_invPart (s : State) : Inv (invPart s) ↔ Inv s := ⟨fun h => { h with }, fun h => { h with }⟩

theorem inv_congr {s t : State} (ht : invPart t = invPart s) (h : Inv s) : Inv t :=
  (inv_invPart t).1 (ht ▸ (inv_invPart s).2 h)

theorem invPart_setPhase_congr {s t : State} (p : Phase) (h : invPart t = invPart s) :
    invPart (setPhase p t) = invPart (setPhase p s) :=
  congrArg (setPhase p) h

theorem invPart_seqOnRequest (p : Byte) (s : State) : invPart (seqOnRequest p s) = invPart s := by
  unfold seqOnRequest; split <;> rfl

theorem invPart_seqOnSuccess (p : Byte) (s : State) : invPart (seqOnSuccess p s) = invPart s := by
  unfold seqOnSuccess; cases s.cfg.iblock.has p <;> rfl

theorem invPart_diagnose (r : DiagRecord) (s : State) : invPart (diagnose r s) = invPart s := by
  unfold diagnose; cases s.cfg.sink <;> rfl

theorem invPart_chainDiagnostic (p : Byte) (s : State) : invPart (chainDiagnostic p s) = invPart s := by
  unfold chainDiagnostic; cases s.cfg.chain.has p
  · rfl
  · exact invPart_diagnose _ s

theorem invPart_takeAnswer (s : State) : invPart (takeAnswer s).2 = invPart s := by
  unfold takeAnswer; split <;> rfl

/-- A port call makes one attempt and one event; all else it changes is not the invariant's. -/
theorem invPart_callPort (op : PortOp) (s : State) :
    invPart (callPort op s).2 = invPart (logCall op (callPort op s).1 s) := by
  have h : invPart (logCall op (callPort op s).1 (takeAnswer s).2) =
      invPart (logCall op (callPort op s).1 (invPart (takeAnswer s).2)) := rfl
  rw [invPart_takeAnswer] at h
  exact (invPart_diagnose _ _).trans h

/-! ### Lengths -/

theorem headerLen_le (h : Bytes) : headerLen h ≤ 255 := by
  have := (h.getD 2 0#8).isLt
  unfold headerLen; omega

theorem length_take_headerLen_le (h d : Bytes) : (d.take (headerLen h)).length ≤ 65535 := by
  have := headerLen_le h
  simp; omega

/-! ### Responses -/

theorem responseLegal_responseMessage {c : Byte} {d : Bytes} (hc : c ≤ 5#8) (hd : d.length ≤ 65535) :
    responseLegal (responseMessage c d) := by
  refine ⟨c, BitVec.ofNat 8 (d.length % 256), BitVec.ofNat 8 (d.length / 256), d, ?_, hc, ?_⟩
  · simp [responseMessage, le16_ofNat hd]
  · simp; omega

theorem failureCode_le (f : Failure) : failureCode f ≤ 5#8 := by
  cases f <;> simp [failureCode]

theorem failureInfo_eq_zero {f : Failure} (h : failureCode f ≠ 3#8) : failureInfo f = 0#16 := by
  cases f with
  | crcError x y => exact absurd rfl h
  | _ => rfl

theorem failureData_length_le (f : Failure) : (failureData f).length ≤ 65535 := by
  cases f with
  | transportError e => exact e.short
  | _ => simp [failureData]

theorem inv_respond {s : State} {c : Byte} {d : Bytes} (h : Inv s) (hc : c ≤ 5#8) (hd : d.length ≤ 65535) :
    Inv (respond c d s) :=
  { h with
    responsesLegal := by
      intro r hr
      obtain hr | rfl : r ∈ s.outbox ∨ r = responseMessage c d := by simpa using hr
      · exact h.responsesLegal r hr
      · exact responseLegal_responseMessage hc hd }

theorem inv_complete {s : State} {d : Bytes} (h : Inv s) (hd : d.length ≤ 65535) : Inv (complete d s) :=
  inv_respond { h with errCode := (by decide : 0#8 ≤ 5#8), infoOnlyCrc := fun _ => rfl } (by decide) hd

theorem inv_setPhase_idle {s : State} (h : Inv s) : Inv (setPhase .idle s) :=
  { h with
    attLeft := fun hp => absurd rfl hp
    txRunning := fun hp => absurd rfl hp
    rxHeaderRead := nofun }

theorem inv_raise {s : State} (f : Failure) (h : Inv (setPhase .idle s)) : Inv (raise f s) :=
  inv_respond { h with errCode := failureCode_le f, infoOnlyCrc := failureInfo_eq_zero } (failureCode_le f)
    (failureData_length_le f)

/-! ### Commands -/

theorem inv_dropCommand {s : State} (rest : List Bytes) (h : Inv s) : Inv (dropCommand rest s) :=
  { h with }

theorem inv_setCrc {s : State} (c : Half) (h : Inv s) (hp : s.phase = .idle) : Inv (setCrc c s) :=
  { h with txRunning := fun hne => absurd hp hne }

theorem inv_holdFrame {s : State} {f : Bytes} (c : Half) (h : Inv s) (hp : s.phase = .idle)
    (hf : completeFrame s.cfg.nad f) : Inv (holdFrame c f s) :=
  { h with txFrame := .inr hf, txRunning := fun hne => absurd hp hne }

theorem inv_resetBlock {s : State} (h : Inv s) : Inv (resetBlock s) where
  errCode := (by decide : 0#8 ≤ 5#8)
  infoOnlyCrc _ := rfl
  attBound := Nat.zero_le _
  attLeft hp := absurd rfl hp
  txFrame := .inl rfl
  txRunning hp := absurd rfl hp
  rxHeader := .inl rfl
  rxHeaderRead := nofun
  rxBody := Nat.zero_le _
  eventsLegal := nofun
  responsesLegal := h.responsesLegal

/-- What the exchange holds while it runs: its frame in `TXBUF`, the raw CRC of what the frame's checksum covers in
`CRC`. -/
def requestHeld (s : State) : Prop :=
  completeFrame s.cfg.nad s.txbuf ∧ s.crc = crc16 (s.txbuf.take (s.txbuf.length - 2)) SEED0

theorem inv_of_running {s : State} (h : Inv (setPhase .idle s)) (hatt : s.att < s.cfg.maxAtt.n) (htx : requestHeld s)
    (hhdr : s.phase = .rdbody → s.rxhdr.length = 3) : Inv s :=
  { h with attLeft := fun _ => hatt, txRunning := fun _ => htx, rxHeaderRead := hhdr }

theorem inv_enterPhase {s : State} {p : Phase} (h : Inv (setPhase .idle s)) (htx : requestHeld s)
    (hhdr : p = .rdbody → s.rxhdr.length = 3) : Inv (enterPhase p s) :=
  inv_of_running { h with attBound := Nat.zero_le _, attLeft := fun hp => absurd rfl hp } s.cfg.maxAtt.pos htx hhdr

theorem requestHeld_holdFrame {s : State} (pcb : Byte) {d : Bytes} (hd : d.length ≤ 253) :
    requestHeld (holdFrame (crc16 (frameHead s.cfg.nad pcb d) SEED0)
      (frameHead s.cfg.nad pcb d ++ fcs (frameHead s.cfg.nad pcb d)) s) :=
  ⟨completeFrame_encoded hd, by simp⟩

/-- Every operation keeps the invariant in a ready block; the PCB rows, which no message decodes to, do so too. -/
theorem exec_keeps_inv {i : Instr} {s t : State} (h : Inv s) (hp : s.phase = .idle) (he : exec i s = .next t) :
    Inv t := by
  cases i with
  | nop => cases he; exact inv_complete h (by simp)
  | rdreg r =>
    obtain ⟨v, -, hr⟩ | ⟨-, hr⟩ := execRdreg_cases r s <;> cases hr.symm.trans he
    · exact inv_respond h (by decide) (by simp [le16])
    · exact inv_raise _ (inv_setPhase_idle h)
  | sreset => cases he; exact inv_complete (inv_resetBlock h) (by simp)
  | crcSeed v => cases he; exact inv_complete (inv_setCrc _ h hp) (by simp)
  | crcUpd b => cases he; exact inv_complete (inv_setCrc _ h hp) (by simp)
  | crcBlk d => cases he; exact inv_complete (inv_setCrc _ h hp) (by simp)
  | crcRead => cases he; exact inv_complete h (by simp [le16])
  | crcFcs => cases he; exact inv_complete h (by simp)
  | crcChk => cases he; exact inv_complete h (by simp)
  | frmEnc p d =>
    obtain ⟨-, hr⟩ | ⟨hd, hr⟩ := execFrmEnc_cases p d s <;> cases hr.symm.trans he
    · exact inv_raise _ (inv_setPhase_idle h)
    · exact inv_complete (inv_holdFrame _ h hp (completeFrame_encoded hd)) (by simp; omega)
  | frmHdr b0 b1 b2 => cases he; exact inv_complete h (by simp [le16])
  | frmVal d =>
    obtain hr | ⟨x, y, hr⟩ | hr := execFrmVal_cases d s <;> cases hr.symm.trans he
    · exact inv_raise _ (inv_setPhase_idle h)
    · exact inv_raise _ (inv_setPhase_idle (inv_setCrc _ h hp))
    · exact inv_complete (inv_setCrc _ h hp) (length_take_headerLen_le _ _)
  | seqRst => cases he; exact inv_complete { h with } (by simp)
  | seqTgl => cases he; exact inv_complete { h with } (by simp)
  | seqRd => cases he; exact inv_complete h (by simp)
  | seqPcb m =>
    obtain hr | hr := execSeqPcb_cases m s <;> cases hr.symm.trans he
    · exact inv_complete h (by simp)
    · exact inv_raise _ (inv_setPhase_idle h)
  | xchg p d =>
    have hreq : Inv (seqOnRequest p s) := inv_congr (invPart_seqOnRequest p s) h
    obtain ⟨-, hr⟩ | ⟨hd, hr⟩ := execXchg_cases p d s <;> cases hr.symm.trans he
    · exact inv_raise _ (inv_setPhase_idle hreq)
    · rw [← seqOnRequest_cfg p s]
      exact inv_enterPhase (inv_holdFrame _ (inv_setPhase_idle hreq) rfl (completeFrame_encoded hd))
        (requestHeld_holdFrame p hd) nofun
  | pcbIblock p => cases he; exact inv_congr (invPart_seqOnSuccess p s) h
  | pcbReset => cases he; exact inv_congr (invPart_seqOnRequest PCB_RESET s) h
  | pcbChain p => cases he; exact inv_congr (invPart_chainDiagnostic p s) h

/-! ### The exchange -/

theorem eventLegal_write {s : State} {v : Bytes} (hv : completeFrame s.cfg.nad v) :
    eventLegal s.cfg ⟨portCallOf s.cfg (.write v), (callPort (.write v) s).1⟩ := by
  refine ⟨rfl, rfl, rfl, hv, fun b hb => ?_⟩
  change answerTo (.write v) (takeAnswer s).1 = .ok b at hb
  cases ha : (takeAnswer s).1 <;> simp_all

theorem eventLegal_read {cfg : Config} {n : Nat} {a : PortAnswer} (h2 : 2 ≤ n) (h257 : n ≤ 257) :
    eventLegal cfg ⟨portCallOf cfg (.read n), a⟩ :=
  ⟨rfl, rfl, rfl, h2, h257⟩

/-- After a legal call of a running exchange the invariant holds of the state seen in `IDLE`: the attempt may have been
the last. -/
theorem inv_callPort {s : State} {op : PortOp} (h : Inv s) (hp : s.phase ≠ .idle)
    (he : eventLegal s.cfg ⟨portCallOf s.cfg op, (callPort op s).1⟩) : Inv (setPhase .idle (callPort op s).2) := by
  have hcongr : invPart (setPhase .idle (callPort op s).2) =
      invPart (setPhase .idle (logCall op (callPort op s).1 s)) :=
    invPart_setPhase_congr .idle (invPart_callPort op s)
  refine inv_congr hcongr { inv_setPhase_idle h with
    attBound := h.attLeft hp
    attLeft := fun hne => absurd rfl hne
    eventsLegal := ?_ }
  intro e hmem
  obtain hmem | rfl : e ∈ s.events ∨ e = _ := by simpa using hmem
  · exact h.eventsLegal e hmem
  · exact he

theorem requestHeld_callPort {s : State} (op : PortOp) (h : requestHeld s) : requestHeld (callPort op s).2 := by
  simpa [requestHeld] using h

/-- A step in a phase keeps the invariant when its call is legal and its `ok` answer is handled so. -/
theorem inv_portStep {s : State} {op : PortOp} {onOk : Bytes → State → State} (h : Inv s) (hp : s.phase ≠ .idle)
    (he : eventLegal s.cfg ⟨portCallOf s.cfg op, (callPort op s).1⟩)
    (hok : ∀ v, Inv (setPhase .idle (callPort op s).2) → Inv (onOk v (callPort op s).2)) :
    Inv (portStep op onOk s) := by
  have hcall := inv_callPort h hp he
  obtain ⟨v, -, hs⟩ | ⟨hlt, hs⟩ | ⟨e, hs⟩ := portStep_answers op onOk s <;> rw [hs]
  · exact hok v hcall
  · exact inv_of_running { hcall with } (by simpa using hlt) (requestHeld_callPort op (h.txRunning hp))
      (by simpa using h.rxHeaderRead)
  · exact inv_raise _ hcall

theorem inv_settleExchange {s : State} (h : Inv (setPhase .idle s)) : Inv (settleExchange s) := by
  have hcrc : Inv (setPhase .idle (setCrc (validate s.rxhdr s.rxbuf) s)) := inv_setCrc _ h rfl
  obtain ⟨x, y, hs⟩ | hs := settleExchange_cases s <;> rw [hs]
  · exact inv_raise _ hcrc
  · have hseq := invPart_setPhase_congr .idle
      (invPart_seqOnSuccess (requestPcb s) (setCrc (validate s.rxhdr s.rxbuf) s))
    exact inv_complete (inv_congr hseq hcrc) (length_take_headerLen_le _ _)

theorem inv_headerRead {s : State} (v : Bytes) (h : Inv (setPhase .idle s)) (htx : requestHeld s) :
    Inv (headerRead v s) := by
  obtain hs | ⟨hv, hs⟩ := headerRead_cases v s <;> rw [hs]
  · exact inv_raise _ h
  · have hheld : Inv (setPhase .idle (holdHeader v s)) := { h with rxHeader := .inr hv, rxHeaderRead := nofun }
    have hchain := invPart_setPhase_congr .idle (invPart_chainDiagnostic (headerPcb v) (holdHeader v s))
    exact inv_enterPhase (inv_congr hchain hheld) (by simpa [requestHeld] using htx) (by simpa using hv)

theorem inv_bodyRead {s : State} (v : Bytes) (h : Inv (setPhase .idle s)) : Inv (bodyRead v s) := by
  obtain hs | ⟨hv, hs⟩ := bodyRead_cases v s <;> rw [hs]
  · exact inv_raise _ h
  · have hlen : v.length ≤ 257 := by have := headerLen_le s.rxhdr; omega
    exact inv_settleExchange { h with rxBody := hlen }

theorem exchangeStep_keeps_inv {s : State} (h : Inv s) (hp : s.phase ≠ .idle) : Inv (exchangeStep s) := by
  have htx : requestHeld s := h.txRunning hp
  unfold exchangeStep
  split
  · exact h
  · refine inv_portStep h hp (eventLegal_write htx.1) fun v hcall => ?_
    exact inv_enterPhase hcall (requestHeld_callPort _ htx) nofun
  · refine inv_portStep h hp (eventLegal_read (by decide) (by decide)) fun v hcall => ?_
    exact inv_headerRead v hcall (requestHeld_callPort _ htx)
  · have hlen := headerLen_le s.rxhdr
    refine inv_portStep h hp (eventLegal_read (by simp [FCS_LEN]) (by simp [FCS_LEN]; omega)) fun v hcall => ?_
    exact inv_bodyRead v hcall

/-- Settles O3: a command and a row of the exchange keep the invariant, whatever the port answers. -/
theorem stepKeepsInvariant : Obligations.StepKeepsInvariant := by
  intro s t h hs
  obtain ⟨-, -, rfl⟩ | ⟨hp, m, rest, i, -, -, he⟩ | ⟨-, m, rest, e, -, -, rfl⟩ | ⟨hp, rfl⟩ := step_cases hs
  · exact h
  · exact exec_keeps_inv (inv_dropCommand rest h) hp he
  · exact inv_raise _ (inv_setPhase_idle (inv_dropCommand rest h))
  · exact exchangeStep_keeps_inv h hp

end Sys2Proof.Machine
end

section
/-! What no step changes, and what changes `CRC`: the configuration's frame, and the writers of the accumulator. -/

namespace Sys2Proof.Machine

/-! ### The configuration -/

theorem exec_cfg {i : Instr} {s t : State} (he : exec i s = .next t) : t.cfg = s.cfg := by
  cases i with
  | rdreg r => obtain ⟨v, -, hr⟩ | ⟨-, hr⟩ := execRdreg_cases r s <;> cases hr.symm.trans he <;> simp
  | frmEnc p d => obtain ⟨-, hr⟩ | ⟨-, hr⟩ := execFrmEnc_cases p d s <;> cases hr.symm.trans he <;> simp
  | frmVal d => obtain hr | ⟨x, y, hr⟩ | hr := execFrmVal_cases d s <;> cases hr.symm.trans he <;> simp
  | seqPcb m => obtain hr | hr := execSeqPcb_cases m s <;> cases hr.symm.trans he <;> simp
  | xchg p d => obtain ⟨-, hr⟩ | ⟨-, hr⟩ := execXchg_cases p d s <;> cases hr.symm.trans he <;> simp
  | _ => cases he; simp

/-- What a port call and an `ok` answer's handling leave alone, a step in a phase leaves alone. -/
theorem portStep_preserves {α : Type} (g : State → α) {op : PortOp} {onOk : Bytes → State → State} (s : State)
    (hcall : g (callPort op s).2 = g s) (hwait : ∀ t, g (waitDelay t) = g t) (hraise : ∀ f t, g (raise f t) = g t)
    (hok : ∀ v t, g (onOk v t) = g t) : g (portStep op onOk s) = g s := by
  obtain ⟨v, -, hs⟩ | ⟨-, hs⟩ | ⟨e, hs⟩ := portStep_answers op onOk s
  · rw [hs, hok, hcall]
  · rw [hs, hwait, hcall]
  · rw [hs, hraise, hcall]

@[simp] theorem headerRead_cfg (v : Bytes) (s : State) : (headerRead v s).cfg = s.cfg := by
  obtain hs | ⟨-, hs⟩ := headerRead_cases v s <;> simp [hs]

@[simp] theorem headerRead_crc (v : Bytes) (s : State) : (headerRead v s).crc = s.crc := by
  obtain hs | ⟨-, hs⟩ := headerRead_cases v s <;> simp [hs]

@[simp] theorem settleExchange_cfg (s : State) : (settleExchange s).cfg = s.cfg := by
  obtain ⟨x, y, hs⟩ | hs := settleExchange_cases s <;> simp [hs]

@[simp] theorem bodyRead_cfg (v : Bytes) (s : State) : (bodyRead v s).cfg = s.cfg := by
  obtain hs | ⟨-, hs⟩ := bodyRead_cases v s <;> simp [hs]

theorem exchangeStep_cfg (s : State) : (exchangeStep s).cfg = s.cfg := by
  unfold exchangeStep
  split
  · rfl
  all_goals exact portStep_preserves (·.cfg) s (by simp) (by simp) (by simp) (by simp)

/-- Settles O40: the configuration is left by every command, and by every row of the exchange. -/
theorem configurationNeverChanges : Obligations.ConfigurationNeverChanges := by
  refine ⟨fun _ _ _ => exec_cfg, fun s t hs => ?_⟩
  obtain ⟨-, -, rfl⟩ | ⟨-, m, rest, i, -, -, he⟩ | ⟨-, m, rest, e, -, -, rfl⟩ | ⟨-, rfl⟩ := step_cases hs
  · rfl
  · simpa using exec_cfg he
  · simp
  · exact exchangeStep_cfg s

/-! ### The accumulator -/

/-- The operations that write `CRC` (70_reset_and_hazards.md R213). -/
def writesCrc (i : Instr) : Prop :=
  (∃ v, i = .crcSeed v) ∨ (∃ b, i = .crcUpd b) ∨ (∃ d, i = .crcBlk d) ∨ (∃ p d, i = .frmEnc p d) ∨
    (∃ d, i = .frmVal d) ∨ (∃ p d, i = .xchg p d) ∨ i = .sreset

theorem exec_crc {i : Instr} {s t : State} (he : exec i s = .next t) (hi : ¬ writesCrc i) : t.crc = s.crc := by
  cases i with
  | rdreg r => obtain ⟨v, -, hr⟩ | ⟨-, hr⟩ := execRdreg_cases r s <;> cases hr.symm.trans he <;> simp
  | seqPcb m => obtain hr | hr := execSeqPcb_cases m s <;> cases hr.symm.trans he <;> simp
  | crcSeed | crcUpd | crcBlk | frmEnc | frmVal | xchg | sreset => simp [writesCrc] at hi
  | _ => cases he; simp

/-- The validation that ends an exchange leaves the checksum of header and remainder in `CRC`, and `ERR` 0 or 3. -/
theorem settleExchange_ends (s : State) :
    (settleExchange s).phase = .idle ∧ ((settleExchange s).err = 0#8 ∨ (settleExchange s).err = 3#8) ∧
    (settleExchange s).events = s.events ∧ (settleExchange s).rxbuf = s.rxbuf ∧
    (settleExchange s).crc = validate s.rxhdr s.rxbuf := by
  obtain ⟨x, y, hs⟩ | hs := settleExchange_cases s <;> simp [hs, failureCode]

/-- The last row of the exchange leaves `CRC`, or its read was answered with the declared number of bytes and validated
(43_transaction.md R139). -/
theorem rdbodyStep_crc (s : State) :
    (rdbodyStep s).crc = s.crc ∨
    ∃ v t, rdbodyStep s = settleExchange (holdBody v t) ∧ v.length = headerLen s.rxhdr + 2 ∧ t.rxhdr = s.rxhdr ∧
      t.events = s.events ++ [eventOf s.cfg (.read (headerLen s.rxhdr + 2)) (.ok v)] := by
  unfold rdbodyStep
  obtain ⟨v, hv, hs⟩ | ⟨-, hs⟩ | ⟨e, hs⟩ := portStep_answers (.read (headerLen s.rxhdr + FCS_LEN)) bodyRead s
  · obtain hb | ⟨hlen, hb⟩ := bodyRead_cases v (callPort (.read (headerLen s.rxhdr + FCS_LEN)) s).2
    · left; simp [hs, hb]
    · refine .inr ⟨v, _, hs.trans hb, by simpa using hlen, by simp, ?_⟩
      rw [callPort_events, hv]; rfl
  · left; simp [hs]
  · left; simp [hs]

theorem exchangeStep_crc {s : State} (h : (exchangeStep s).crc ≠ s.crc) :
    s.phase = .rdbody ∧ exchangeStep s = rdbodyStep s := by
  unfold exchangeStep at h ⊢
  split at h
  · exact absurd rfl h
  · exact absurd (portStep_preserves (·.crc) s (by simp) (by simp) (by simp) (by simp)) h
  · exact absurd (portStep_preserves (·.crc) s (by simp) (by simp) (by simp) (by simp)) h
  · next hp => exact ⟨hp, rfl⟩

/-- Settles O38: of the commands only the CRC writers change `CRC`, of the exchange's rows only a validation. -/
theorem accumulatorWriters : Obligations.AccumulatorWriters := by
  intro s t hs hne
  obtain ⟨-, -, rfl⟩ | ⟨hp, m, rest, i, hm, hd, he⟩ | ⟨-, m, rest, e, -, -, rfl⟩ | ⟨-, rfl⟩ := step_cases hs
  · exact absurd rfl hne
  · exact .inr ⟨hp, m, rest, i, hm, hd, by_contra fun hi => hne (by simpa using exec_crc he hi)⟩
  · exact absurd (by simp) hne
  · obtain ⟨hp, hstep⟩ := exchangeStep_crc hne
    rw [hstep] at hne ⊢
    obtain hcrc | ⟨v, t, hsettle, hlen, hhdr, hev⟩ := rdbodyStep_crc s
    · exact absurd hcrc hne
    · obtain ⟨hidle, herr, hevents, hbuf, hcrc⟩ := settleExchange_ends (holdBody v t)
      rw [hsettle, hcrc, hevents, hbuf]
      simp only [holdBody_rxhdr, holdBody_rxbuf, holdBody_events, hhdr]
      exact .inl ⟨hp, hidle, herr, hev, hlen, rfl⟩

end Sys2Proof.Machine
end

section
/-! The hidden buffers are invisible between operations: a command sees its state only through `forget`, and an exchange
writes `ATT`, `TXBUF`, `RXHDR` and `RXBUF` before it reads them. -/

namespace Sys2Proof.Machine

/-! ### Commands -/

/-- The state with `ATT` and the frame buffers emptied: what a command can depend on (10_state.md R16, R17). -/
def forget (s : State) : State := { s with att := 0, txbuf := [], rxhdr := [], rxbuf := [] }

theorem eq_of_forget_eq {s s' : State} (h : forget s' = forget s) :
    s' = { s with att := s'.att, txbuf := s'.txbuf, rxhdr := s'.rxhdr, rxbuf := s'.rxbuf } :=
  congrArg (fun u : State => { u with att := s'.att, txbuf := s'.txbuf, rxhdr := s'.rxhdr, rxbuf := s'.rxbuf }) h

theorem phase_eq_of_forget_eq {s s' : State} (h : forget s' = forget s) : s'.phase = s.phase :=
  show (forget s').phase = (forget s).phase from congrArg State.phase h

theorem visible_of_forget_eq {s s' : State} (h : forget s' = forget s) : visible s' = visible s :=
  show visible (forget s') = visible (forget s) from congrArg visible h

theorem forget_seqOnRequest (p : Byte) (s : State) : forget (seqOnRequest p s) = seqOnRequest p (forget s) := by
  unfold seqOnRequest; split <;> rfl

theorem forget_seqOnSuccess (p : Byte) (s : State) : forget (seqOnSuccess p s) = seqOnSuccess p (forget s) := by
  unfold seqOnSuccess
  change _ = bif s.cfg.iblock.has p then _ else _
  cases s.cfg.iblock.has p <;> rfl

theorem forget_diagnose (r : DiagRecord) (s : State) : forget (diagnose r s) = diagnose r (forget s) := by
  unfold diagnose
  change _ = bif s.cfg.sink then _ else _
  cases s.cfg.sink <;> rfl

theorem forget_chainDiagnostic (p : Byte) (s : State) :
    forget (chainDiagnostic p s) = chainDiagnostic p (forget s) := by
  unfold chainDiagnostic
  change _ = bif s.cfg.chain.has p then _ else _
  cases s.cfg.chain.has p
  · rfl
  · exact forget_diagnose _ s

/-- The two states differ at most in `ATT` and the buffers, and while an exchange runs agree on what it will use of
them: `ATT` and the request frame. -/
def sameButStale (u t : State) : Prop :=
  forget u = forget t ∧ (t.phase ≠ .idle → u.att = t.att ∧ u.txbuf = t.txbuf)

theorem sameButStale_of_idle {u t : State} (h : forget u = forget t) (hp : t.phase = .idle) : sameButStale u t :=
  ⟨h, fun hne => absurd hp hne⟩

theorem sameButStale_of_common {u t t' : State} (h : sameButStale u t) (h' : sameButStale u t') :
    sameButStale t' t := by
  obtain ⟨hf, hrun⟩ := h
  obtain ⟨hf', hrun'⟩ := h'
  refine ⟨hf'.symm.trans hf, fun hp => ?_⟩
  obtain ⟨hatt, htx⟩ := hrun hp
  obtain ⟨hatt', htx'⟩ := hrun' (by rwa [← phase_eq_of_forget_eq hf', phase_eq_of_forget_eq hf])
  exact ⟨hatt'.symm.trans hatt, htx'.symm.trans htx⟩

/-- A command from a ready state does what it does with the buffers emptied. -/
theorem exec_forget {i : Instr} {s t : State} (hp : s.phase = .idle) (he : exec i s = .next t) :
    ∃ u, exec i (forget s) = .next u ∧ sameButStale u t := by
  cases i with
  | rdreg r =>
    obtain ⟨v, hv, hr⟩ | ⟨hv, hr⟩ := execRdreg_cases r s <;> cases hr.symm.trans he
    · exact ⟨_, execRdreg_known (s := forget s) hv, sameButStale_of_idle rfl hp⟩
    · exact ⟨_, execRdreg_unknown (s := forget s) hv, sameButStale_of_idle rfl rfl⟩
  | frmEnc p d =>
    obtain ⟨hd, hr⟩ | ⟨hd, hr⟩ := execFrmEnc_cases p d s <;> cases hr.symm.trans he
    · exact ⟨_, execFrmEnc_tooLong hd, sameButStale_of_idle rfl rfl⟩
    · exact ⟨_, execFrmEnc_fits hd, sameButStale_of_idle rfl hp⟩
  | frmVal d =>
    simp only [exec, execFrmVal] at he ⊢
    split_ifs at he ⊢ <;> cases he <;> exact ⟨_, rfl, sameButStale_of_idle rfl (by simp [hp])⟩
  | seqPcb m =>
    simp only [exec, execSeqPcb] at he ⊢
    split_ifs at he ⊢ <;> cases he <;> exact ⟨_, rfl, sameButStale_of_idle rfl (by simp [hp])⟩
  | xchg p d =>
    obtain ⟨hd, hr⟩ | ⟨hd, hr⟩ := execXchg_cases p d s <;> cases hr.symm.trans he
    · refine ⟨_, execXchg_tooLong hd, sameButStale_of_idle ?_ rfl⟩
      rw [← forget_seqOnRequest]; rfl
    · refine ⟨_, execXchg_fits hd, ?_, fun _ => ⟨rfl, rfl⟩⟩
      rw [← forget_seqOnRequest]; rfl
  | pcbIblock p =>
    cases he; exact ⟨_, rfl, sameButStale_of_idle (by rw [← forget_seqOnSuccess]; rfl) (by simpa using hp)⟩
  | pcbReset =>
    cases he; exact ⟨_, rfl, sameButStale_of_idle (by rw [← forget_seqOnRequest]; rfl) (by simpa using hp)⟩
  | pcbChain p =>
    cases he; exact ⟨_, rfl, sameButStale_of_idle (by rw [← forget_chainDiagnostic]; rfl) (by simpa using hp)⟩
  | sreset => cases he; exact ⟨_, rfl, sameButStale_of_idle rfl rfl⟩
  | _ => cases he; exact ⟨_, rfl, sameButStale_of_idle rfl hp⟩

theorem step_forget {s t : State} (hp : s.phase = .idle) (hs : step s = .next t) :
    ∃ u, step (forget s) = .next u ∧ sameButStale u t := by
  obtain ⟨-, hi, rfl⟩ | ⟨-, m, rest, i, hi, hd, he⟩ | ⟨-, m, rest, e, hi, hd, rfl⟩ | ⟨hne, -⟩ := step_cases hs
  · exact ⟨_, step_nothing (s := forget t) hp hi, sameButStale_of_idle rfl hp⟩
  · obtain ⟨u, hu, hsame⟩ := exec_forget (s := dropCommand rest s) hp he
    exact ⟨u, (step_command (s := forget s) hp hi hd).trans hu, hsame⟩
  · exact ⟨_, step_illegal (s := forget s) hp hi hd, sameButStale_of_idle rfl rfl⟩
  · exact absurd hp hne

theorem step_sameButStale {s s' t t' : State} (h : forget s' = forget s) (hp : s.phase = .idle)
    (hs : step s = .next t) (hs' : step s' = .next t') : sameButStale t' t := by
  obtain ⟨u, hu, hsame⟩ := step_forget hp hs
  obtain ⟨u', hu', hsame'⟩ := step_forget ((phase_eq_of_forget_eq h).trans hp) hs'
  rw [h, hu] at hu'
  cases hu'
  exact sameButStale_of_common hsame hsame'

/-! ### The whole exchange -/

/-- The state with other bytes in the receive buffers. -/
def stale (h b : Bytes) (s : State) : State := { s with rxhdr := h, rxbuf := b }

theorem diagnose_stale (r : DiagRecord) (h b : Bytes) (s : State) :
    diagnose r (stale h b s) = stale h b (diagnose r s) := by
  unfold diagnose
  change (bif s.cfg.sink then _ else _) = _
  cases s.cfg.sink <;> rfl

theorem chainDiagnostic_stale (p : Byte) (h b : Bytes) (s : State) :
    chainDiagnostic p (stale h b s) = stale h b (chainDiagnostic p s) := by
  unfold chainDiagnostic
  change (bif s.cfg.chain.has p then _ else _) = _
  cases s.cfg.chain.has p
  · rfl
  · exact diagnose_stale _ h b s

theorem takeAnswer_stale (h b : Bytes) (s : State) :
    takeAnswer (stale h b s) = ((takeAnswer s).1, stale h b (takeAnswer s).2) := by
  cases ha : s.answers with
  | nil => rw [takeAnswer_drawn ha]; exact takeAnswer_drawn ha
  | cons a rest => rw [takeAnswer_listed ha]; exact takeAnswer_listed ha

/-- The port and its retries look at no receive buffer. -/
theorem callPort_stale (op : PortOp) (h b : Bytes) (s : State) :
    callPort op (stale h b s) = ((callPort op s).1, stale h b (callPort op s).2) :=
  (callPort_of_takeAnswer (takeAnswer_stale h b s)).trans (congrArg (Prod.mk _) (diagnose_stale _ h b (logCall _ _ _)))

theorem retryLoop_stale (op : PortOp) (k : Nat) (h b : Bytes) (s : State) :
    retryLoop op k (stale h b s) = ((retryLoop op k s).1, stale h b (retryLoop op k s).2) := by
  induction k generalizing s with
  | zero => exact callPort_stale op h b s
  | succ k ih =>
    have hc := callPort_stale op h b s
    rcases hs : callPort op s with ⟨v | e, t⟩ <;> rw [hs] at hc
    · rw [retryLoop_ok hc, retryLoop_ok hs]
    · rw [retryLoop_again hc, retryLoop_again hs]
      exact ih (waitDelay t)

theorem retry_stale (op : PortOp) (h b : Bytes) (s : State) :
    retry op (stale h b s) = ((retry op s).1, stale h b (retry op s).2) :=
  retryLoop_stale op _ h b (clearAtt s)

theorem wholeFromBody_err {s t : State} {e : TErr}
    (hr : retry (.read (headerLen s.rxhdr + FCS_LEN)) (setPhase .rdbody s) = (.err e, t)) :
    wholeFromBody s = raise (.transportError e) t := by
  simp [wholeFromBody, hr]

theorem wholeFromBody_ok {s t : State} {v : Bytes}
    (hr : retry (.read (headerLen s.rxhdr + FCS_LEN)) (setPhase .rdbody s) = (.ok v, t)) :
    wholeFromBody s = if v.length ≠ headerLen s.rxhdr + FCS_LEN then raise .malformedResponse t
      else settleExchange (holdBody v t) := by
  simp [wholeFromBody, hr]

theorem wholeFromHeader_err {s t : State} {e : TErr} (hr : retry (.read HDR_LEN) (setPhase .rdhdr s) = (.err e, t)) :
    wholeFromHeader s = raise (.transportError e) t := by
  simp [wholeFromHeader, hr]

theorem wholeFromHeader_ok {s t : State} {v : Bytes} (hr : retry (.read HDR_LEN) (setPhase .rdhdr s) = (.ok v, t)) :
    wholeFromHeader s = if v.length ≠ HDR_LEN then raise .malformedResponse t
      else wholeFromBody (chainDiagnostic (headerPcb v) (holdHeader v t)) := by
  simp [wholeFromHeader, hr]

theorem wholeFromWrite_err {s t : State} {e : TErr} (hr : retry (.write s.txbuf) (setPhase .write s) = (.err e, t)) :
    wholeFromWrite s = raise (.transportError e) t := by
  simp [wholeFromWrite, hr]

theorem wholeFromWrite_ok {s t : State} {v : Bytes} (hr : retry (.write s.txbuf) (setPhase .write s) = (.ok v, t)) :
    wholeFromWrite s = wholeFromHeader t := by
  simp [wholeFromWrite, hr]

/-- The remainder overwrites `RXBUF`; the header in `RXHDR` is the exchange's own. -/
theorem wholeFromBody_stale {h b : Bytes} {s : State} (hh : s.rxhdr = h) :
    visible (wholeFromBody (stale h b s)) = visible (wholeFromBody s) := by
  subst hh
  have hhdr := retry_rxhdr (.read (headerLen s.rxhdr + FCS_LEN)) (setPhase .rdbody s)
  have hretry := retry_stale (.read (headerLen s.rxhdr + FCS_LEN)) s.rxhdr b (setPhase .rdbody s)
  rcases hr : retry (.read (headerLen s.rxhdr + FCS_LEN)) (setPhase .rdbody s) with ⟨v | e, t⟩
  all_goals rw [hr] at hretry hhdr
  · have hheld : holdBody v (stale s.rxhdr b t) = holdBody v t := by rw [← setPhase_rxhdr .rdbody s, ← hhdr]; rfl
    rw [wholeFromBody_ok hr, wholeFromBody_ok (s := stale s.rxhdr b s) hretry, hheld]
    change visible (if v.length ≠ headerLen s.rxhdr + FCS_LEN then _ else _) = _
    split_ifs <;> rfl
  · rw [wholeFromBody_err hr, wholeFromBody_err (s := stale s.rxhdr b s) hretry]
    rfl

/-- The header overwrites `RXHDR`. -/
theorem wholeFromHeader_stale (h b : Bytes) (s : State) :
    visible (wholeFromHeader (stale h b s)) = visible (wholeFromHeader s) := by
  have hretry := retry_stale (.read HDR_LEN) h b (setPhase .rdhdr s)
  rcases hr : retry (.read HDR_LEN) (setPhase .rdhdr s) with ⟨v | e, t⟩
  all_goals rw [hr] at hretry
  · have hheld : chainDiagnostic (headerPcb v) (holdHeader v (stale h b t)) =
        stale v b (chainDiagnostic (headerPcb v) (holdHeader v t)) := chainDiagnostic_stale _ v b (holdHeader v t)
    rw [wholeFromHeader_ok hr, wholeFromHeader_ok (s := stale h b s) hretry, hheld]
    split_ifs
    · rfl
    · exact wholeFromBody_stale (by simp)
  · rw [wholeFromHeader_err hr, wholeFromHeader_err (s := stale h b s) hretry]
    rfl

theorem wholeFromWrite_stale (h b : Bytes) (s : State) :
    visible (wholeFromWrite (stale h b s)) = visible (wholeFromWrite s) := by
  have hretry := retry_stale (.write s.txbuf) h b (setPhase .write s)
  rcases hr : retry (.write s.txbuf) (setPhase .write s) with ⟨v | e, t⟩
  all_goals rw [hr] at hretry
  · rw [wholeFromWrite_ok hr, wholeFromWrite_ok (s := stale h b s) hretry]
    exact wholeFromHeader_stale h b t
  · rw [wholeFromWrite_err hr, wholeFromWrite_err (s := stale h b s) hretry]
    rfl

/-- Steps 3 to 8 depend on nothing hidden but the request frame; the first retry sets `ATT` to 0. -/
theorem wholeFromWrite_forget {u u' : State} (h : forget u' = forget u) (htx : u'.txbuf = u.txbuf) :
    visible (wholeFromWrite u') = visible (wholeFromWrite u) := by
  have hclear : clearAtt u' = stale u'.rxhdr u'.rxbuf (clearAtt u) := by
    conv_lhs => rw [eq_of_forget_eq h, htx]
    rfl
  calc visible (wholeFromWrite u')
      = visible (wholeFromWrite (clearAtt u')) := rfl
    _ = visible (wholeFromWrite (clearAtt u)) := by rw [hclear, wholeFromWrite_stale]
    _ = visible (wholeFromWrite u) := rfl

theorem xchgWhole_forget {s s' : State} (p : Byte) (d : Bytes) (h : forget s' = forget s) :
    visible (xchgWhole p d s') = visible (xchgWhole p d s) := by
  have hseq : forget (seqOnRequest p s') = forget (seqOnRequest p s) := by
    rw [forget_seqOnRequest, h, forget_seqOnRequest]
  have hcfg : (seqOnRequest p s').cfg = (seqOnRequest p s).cfg := congrArg (·.cfg) hseq
  unfold xchgWhole
  obtain hd | hd : 254 ≤ d.length ∨ d.length ≤ 253 := by omega
  · rw [buildRequest_tooLong hd, buildRequest_tooLong hd]
    exact visible_of_forget_eq (congrArg (raise .frameTooLong) hseq)
  · rw [buildRequest_fits hd, buildRequest_fits hd, hcfg]
    exact wholeFromWrite_forget (congrArg (setCrc _) hseq) rfl

/-- Settles O43: a command depends on its state with the buffers emptied, and an exchange overwrites what it finds. -/
theorem hiddenBuffersInvisible : Obligations.HiddenBuffersInvisible := by
  intro s s' a x h b hs'
  have hforget : forget s' = forget s := by rw [hs']; rfl
  refine ⟨fun hp t t' hs hs' => ?_, fun p d => xchgWhole_forget p d hforget⟩
  obtain ⟨heq, hrun⟩ := step_sameButStale hforget hp hs hs'
  exact ⟨eq_of_forget_eq heq, hrun⟩

end Sys2Proof.Machine
end

section
/-! The boundary of the block (20_memory.md): a ready block takes the first command message and runs it, a command makes
no port call, and a step of an exchange makes exactly one and takes no command. -/

namespace Sys2Proof.Machine

/-! ### Taking a command -/

/-- Settles O49: the state with the message taken off is `dropCommand` of the rest of the queue. -/
theorem stepRunsDecodedCommand : Obligations.StepRunsDecodedCommand :=
  fun _ _ _ _ => step_command

theorem decodeTableWord_eq_some {nbits w : Nat} {i : Instr} :
    decodeTableWord nbits w = some i ↔ decode (tableMessage nbits w) = .ok i := by
  unfold decodeTableWord
  cases decode (tableMessage nbits w) <;> simp

/-- A message delivered is the one the next step takes; the queue behind it is as it was before the delivery. -/
theorem step_deliver {m : Bytes} {s : State} {i : Instr} (hd : decode m = .ok i) :
    step (deliver m s) = exec i (setPhase .idle s) :=
  step_command (deliver_phase m s) (deliver_inbox m s) hd

/-- Settles O50: placing an instruction is delivering its message. -/
theorem placedInstructionRunsNext : Obligations.PlacedInstructionRunsNext :=
  fun _ _ _ _ h => step_deliver (decodeTableWord_eq_some.1 h)

/-! ### The port -/

/-- A command, `XCHG` among them, makes no port call, no wait, and takes nothing from the host's queue. -/
theorem exec_leaves_port {i : Instr} {s t : State} (he : exec i s = .next t) :
    t.answers = s.answers ∧ t.waits = s.waits ∧ t.inbox = s.inbox ∧ (i ≠ .sreset → t.events = s.events) := by
  cases i with
  | rdreg r => obtain ⟨v, -, hr⟩ | ⟨-, hr⟩ := execRdreg_cases r s <;> cases hr.symm.trans he <;> simp
  | frmEnc p d => obtain ⟨-, hr⟩ | ⟨-, hr⟩ := execFrmEnc_cases p d s <;> cases hr.symm.trans he <;> simp
  | frmVal d => obtain hr | ⟨x, y, hr⟩ | hr := execFrmVal_cases d s <;> cases hr.symm.trans he <;> simp
  | seqPcb m => obtain hr | hr := execSeqPcb_cases m s <;> cases hr.symm.trans he <;> simp
  | xchg p d => obtain ⟨-, hr⟩ | ⟨-, hr⟩ := execXchg_cases p d s <;> cases hr.symm.trans he <;> simp
  | _ => cases he; simp

/-- What follows the call in a step of a phase adds nothing to what the call did to the history. -/
theorem portStep_events {op : PortOp} {onOk : Bytes → State → State} (s : State)
    (hok : ∀ v t, (onOk v t).events = t.events) :
    (portStep op onOk s).events = s.events ++ [⟨portCallOf s.cfg op, (callPort op s).1⟩] := by
  rw [← callPort_events]
  obtain ⟨v, -, hs⟩ | ⟨-, hs⟩ | ⟨e, hs⟩ := portStep_answers op onOk s <;> rw [hs]
  · exact hok v _
  · exact waitDelay_events _
  · exact raise_events _ _

@[simp] theorem settleExchange_events (s : State) : (settleExchange s).events = s.events := by
  obtain ⟨-, -, hevents, -⟩ := settleExchange_ends s
  exact hevents

@[simp] theorem settleExchange_inbox (s : State) : (settleExchange s).inbox = s.inbox := by
  obtain ⟨x, y, hs⟩ | hs := settleExchange_cases s <;> simp [hs]

@[simp] theorem headerRead_events (v : Bytes) (s : State) : (headerRead v s).events = s.events := by
  obtain hs | ⟨-, hs⟩ := headerRead_cases v s <;> simp [hs]

@[simp] theorem headerRead_inbox (v : Bytes) (s : State) : (headerRead v s).inbox = s.inbox := by
  obtain hs | ⟨-, hs⟩ := headerRead_cases v s <;> simp [hs]

@[simp] theorem bodyRead_events (v : Bytes) (s : State) : (bodyRead v s).events = s.events := by
  obtain hs | ⟨-, hs⟩ := bodyRead_cases v s <;> simp [hs]

@[simp] theorem bodyRead_inbox (v : Bytes) (s : State) : (bodyRead v s).inbox = s.inbox := by
  obtain hs | ⟨-, hs⟩ := bodyRead_cases v s <;> simp [hs]

theorem exchangeStep_inbox (s : State) : (exchangeStep s).inbox = s.inbox := by
  unfold exchangeStep
  split
  · rfl
  all_goals exact portStep_preserves (·.inbox) s (by simp) (by simp) (by simp) (by simp)

/-- A step in a phase makes one call, the phase's own (43_transaction.md R143). -/
theorem exchangeStep_events {s : State} (hp : s.phase ≠ .idle) :
    ∃ op, (exchangeStep s).events = s.events ++ [⟨portCallOf s.cfg op, (callPort op s).1⟩] := by
  unfold exchangeStep
  split
  · next h => exact absurd h hp
  · exact ⟨_, portStep_events s (by simp)⟩
  · exact ⟨_, portStep_events s headerRead_events⟩
  · exact ⟨_, portStep_events s bodyRead_events⟩

/-- Settles O41: commands leave the port's side alone; a row of the exchange is one call, made with the instance's own
bus and address (20_memory.md R34). -/
theorem portOnlyDuringExchange : Obligations.PortOnlyDuringExchange := by
  refine ⟨fun _ _ _ => exec_leaves_port, fun s t hs hp => ?_⟩
  cases (step_exchange hp).symm.trans hs
  obtain ⟨op, hev⟩ := exchangeStep_events hp
  exact ⟨exchangeStep_inbox s, _, hev, rfl, rfl, rfl⟩

end Sys2Proof.Machine
end

section
/-! Encoding and decoding of command messages (30_encoding.md R60 to R64): the operands and their formats, then the
opcode table, then the two directions of the round trip, and from them which messages are illegal. -/

namespace Sys2Proof.Machine

/-! ### Operands and their formats -/

theorem le16_fromLe16 (lo hi : Byte) : le16 (fromLe16 lo hi) = [lo, hi] := by
  have hlo := lo.isLt
  have hhi := hi.isLt
  have hlow : lo8 (fromLe16 lo hi) = lo := by
    apply BitVec.eq_of_toNat_eq
    simp [lo8_eq_lowByte, lowByte, fromLe16_toNat]; omega
  have hhigh : hi8 (fromLe16 lo hi) = hi := by
    apply BitVec.eq_of_toNat_eq
    simp [hi8_eq_highByte, highByte, fromLe16_toNat]; omega
  rw [le16, hlow, hhigh]

/-- The length field of `n` bytes is read back as `n`. -/
theorem fromLe16_length_field {n : Nat} (h : n ≤ 65535) :
    (fromLe16 (lo8 (BitVec.ofNat 16 n)) (hi8 (BitVec.ofNat 16 n))).toNat = n := by
  rw [fromLe16_lo8_hi8, BitVec.toNat_ofNat]
  exact Nat.mod_eq_of_lt (by omega)

/-- Data as long as its length field says: the field is the one an encoder writes, and it can hold the length. -/
theorem length_field_of_eq {lo hi : Byte} {n : Nat} (h : n = (fromLe16 lo hi).toNat) :
    le16 (BitVec.ofNat 16 n) = [lo, hi] ∧ n ≤ 65535 := by
  have := (fromLe16 lo hi).isLt
  exact ⟨by rw [h, BitVec.ofNat_toNat, BitVec.setWidth_eq, le16_fromLe16], by omega⟩

/-- The format whose messages carry the operands (30_encoding.md R61). -/
def operandFormat : Operands → Format
  | .none => .N
  | .imm8 _ => .B
  | .imm16 _ => .H
  | .header _ _ _ => .T
  | .data _ => .V
  | .pcbData _ _ => .X

/-- The data that the operands hold has a length its 16-bit field can give. -/
def operandsFit : Operands → Prop
  | .data d => d.length ≤ 65535
  | .pcbData _ d => d.length ≤ 65535
  | _ => True

theorem parse_bytes {o : Operands} (h : operandsFit o) : (operandFormat o).parse o.bytes = some o := by
  cases o with
  | imm16 v => simp [operandFormat, Operands.bytes, Format.parse, le16, fromLe16_lo8_hi8]
  | data d => simp [operandFormat, Operands.bytes, Format.parse, le16, fromLe16_length_field h]
  | pcbData p d => simp [operandFormat, Operands.bytes, Format.parse, le16, fromLe16_length_field h]
  | _ => rfl

/-- The operands that were read carry exactly the bytes that were read. -/
theorem bytes_of_parse {f : Format} {ops : Bytes} {o : Operands} (h : f.parse ops = some o) :
    o.bytes = ops ∧ operandsFit o := by
  unfold Format.parse at h
  split at h
  · cases h; exact ⟨rfl, trivial⟩
  · cases h; exact ⟨rfl, trivial⟩
  · cases h; exact ⟨le16_fromLe16 _ _, trivial⟩
  · cases h; exact ⟨rfl, trivial⟩
  · obtain ⟨hlen, ho⟩ := Option.ite_none_right_eq_some.1 h
    obtain ⟨hfield, hfit⟩ := length_field_of_eq hlen
    cases ho; exact ⟨by simp [Operands.bytes, hfield], hfit⟩
  · obtain ⟨hlen, ho⟩ := Option.ite_none_right_eq_some.1 h
    obtain ⟨hfield, hfit⟩ := length_field_of_eq hlen
    cases ho; exact ⟨by simp [Operands.bytes, hfield], hfit⟩
  · cases h

/-! ### The opcode table -/

theorem opcodeFormat_opcodeOf {i : Instr} (hc : i.isCommand = true) :
    opcodeFormat (opcodeOf i) = some (operandFormat (operandsOf i)) := by
  cases i with
  | pcbIblock | pcbReset | pcbChain => cases hc
  | _ => rfl

theorem instrOf_opcodeOf {i : Instr} (hw : i.wf = true) (hc : i.isCommand = true) :
    instrOf (opcodeOf i) (operandsOf i) = .ok i := by
  cases i with
  | pcbIblock | pcbReset | pcbChain => cases hc
  | rdreg r =>
    have hr : registerExists r := of_decide_eq_true hw
    simp [instrOf, opcodeOf, operandsOf, hr]
  | seqPcb m =>
    have hm : chainFlagOnly m := of_decide_eq_true hw
    simp [instrOf, opcodeOf, operandsOf, hm]
  | _ => rfl

theorem operandsFit_of_wf {i : Instr} (hw : i.wf = true) : operandsFit (operandsOf i) := by
  cases i with
  | crcBlk d | frmEnc _ d | frmVal d | xchg _ d => exact of_decide_eq_true (p := dataFits d) hw
  | _ => trivial

/-- The operation that an opcode selects has this opcode and these operands. -/
theorem instrOf_eq_ok {op : Byte} {o : Operands} {i : Instr} (h : instrOf op o = .ok i) :
    opcodeOf i = op ∧ operandsOf i = o ∧ i.isCommand = true := by
  cases o
  all_goals
    simp only [instrOf] at h
    split_ifs at h <;> cases h
    all_goals exact ⟨Eq.symm ‹_›, rfl, rfl⟩

theorem wf_of_instrOf {op : Byte} {o : Operands} {i : Instr} (h : instrOf op o = .ok i) (hf : operandsFit o) :
    i.wf = true := by
  obtain ⟨rfl, rfl, hc⟩ := instrOf_eq_ok h
  cases i with
  | pcbIblock | pcbReset | pcbChain => cases hc
  | crcBlk | frmEnc | frmVal | xchg => exact decide_eq_true hf
  | rdreg r => exact decide_eq_true (by_contra fun hr => by simp [instrOf, opcodeOf, operandsOf, hr] at h)
  | seqPcb m => exact decide_eq_true (by_contra fun hm => by simp [instrOf, opcodeOf, operandsOf, hm] at h)
  | _ => rfl

/-! ### The round trip -/

theorem decode_cons {op : Byte} {ops : Bytes} {f : Format} {o : Operands} (hf : opcodeFormat op = some f)
    (ho : f.parse ops = some o) : decode (op :: ops) = instrOf op o := by
  simp [decode, hf, ho]

/-- A message that decodes has an opcode of the table, operands of its format, and the operation these select. -/
theorem decode_eq_ok {m : Bytes} {i : Instr} (h : decode m = .ok i) :
    ∃ op ops f o, m = op :: ops ∧ opcodeFormat op = some f ∧ f.parse ops = some o ∧ instrOf op o = .ok i := by
  unfold decode at h
  split at h
  · cases h
  · next op ops =>
    split at h
    · cases h
    · next f hf =>
      split at h
      · cases h
      · next o ho => exact ⟨op, ops, f, o, rfl, hf, ho, h⟩

/-- Settles O45: the table gives back the format and the operation of its own opcode, the format its operands. -/
theorem decodeOfEncode : Obligations.DecodeOfEncode := by
  intro i hw hc
  rw [encode, decode_cons (opcodeFormat_opcodeOf hc) (parse_bytes (operandsFit_of_wf hw)), instrOf_opcodeOf hw hc]

/-- Settles O46: an operation keeps the opcode that selected it and the operands that were read. -/
theorem encodeOfDecode : Obligations.EncodeOfDecode := by
  intro m i h
  obtain ⟨op, ops, f, o, rfl, -, ho, hi⟩ := decode_eq_ok h
  obtain ⟨hbytes, hfit⟩ := bytes_of_parse ho
  obtain ⟨hop, hoperands, hc⟩ := instrOf_eq_ok hi
  exact ⟨by rw [encode, hop, hoperands, hbytes], wf_of_instrOf hi hfit, hc⟩

/-! ### Illegal messages -/

/-- The messages that are not illegal, by opcode and length (30_encoding.md R64). -/
def legalMessage (m : Bytes) : Prop :=
  ∃ op ops, m = op :: ops ∧
    ((op ∈ [0x00#8, 0x0F#8, 0x13#8, 0x14#8, 0x15#8, 0x30#8, 0x31#8, 0x32#8] ∧ ops = []) ∨
      (op = 0x11#8 ∧ ops.length = 1) ∨
      (op = 0x01#8 ∧ ∃ r : Byte, r.toNat ≤ 3 ∧ ops = [r]) ∨
      (op = 0x33#8 ∧ ∃ f : Byte, f.toNat ≤ 1 ∧ ops = [f]) ∨
      (op = 0x10#8 ∧ ops.length = 2) ∨
      (op = 0x21#8 ∧ ops.length = 3) ∨
      (op ∈ [0x12#8, 0x22#8] ∧ ∃ lo hi d, ops = lo :: hi :: d ∧ d.length = lo.toNat + 256 * hi.toNat) ∨
      (op ∈ [0x20#8, 0x40#8] ∧ ∃ p lo hi d, ops = p :: lo :: hi :: d ∧
        d.length = lo.toNat + 256 * hi.toNat))

/-- A length field in front of its data, as an encoder writes it. -/
theorem le16_length_field {d : Bytes} (h : d.length ≤ 65535) :
    ∃ lo hi, le16 (BitVec.ofNat 16 d.length) = [lo, hi] ∧ d.length = lo.toNat + 256 * hi.toNat :=
  ⟨_, _, rfl, by rw [← fromLe16_toNat, fromLe16_length_field h]⟩

theorem legalMessage_encode {i : Instr} (hw : i.wf = true) (hc : i.isCommand = true) : legalMessage (encode i) := by
  refine ⟨opcodeOf i, (operandsOf i).bytes, rfl, ?_⟩
  cases i with
  | pcbIblock | pcbReset | pcbChain => cases hc
  | nop | sreset | crcRead | crcFcs | crcChk | seqRst | seqTgl | seqRd => simp [opcodeOf, operandsOf, Operands.bytes]
  | crcUpd | crcSeed | frmHdr => simp [opcodeOf, operandsOf, Operands.bytes, le16]
  | rdreg r => exact .inr (.inr (.inl ⟨rfl, r, of_decide_eq_true (p := registerExists r) hw, rfl⟩))
  | seqPcb f => exact .inr (.inr (.inr (.inl ⟨rfl, f, of_decide_eq_true (p := chainFlagOnly f) hw, rfl⟩)))
  | crcBlk d | frmVal d =>
    obtain ⟨lo, hi, hfield, hlen⟩ := le16_length_field (of_decide_eq_true (p := dataFits d) hw)
    simp only [opcodeOf, operandsOf, Operands.bytes, hfield]
    simp [hlen]
  | frmEnc p d | xchg p d =>
    obtain ⟨lo, hi, hfield, hlen⟩ := le16_length_field (of_decide_eq_true (p := dataFits d) hw)
    simp only [opcodeOf, operandsOf, Operands.bytes, hfield]
    simp [hlen]

theorem decodes_of_legalMessage {m : Bytes} (h : legalMessage m) : ∃ i, decode m = .ok i := by
  obtain ⟨op, ops, rfl, h⟩ := h
  obtain ⟨hop, rfl⟩ | ⟨rfl, hlen⟩ | ⟨rfl, r, hr, rfl⟩ | ⟨rfl, f, hf, rfl⟩ | ⟨rfl, hlen⟩ | ⟨rfl, hlen⟩ |
    ⟨hop, lo, hi, d, rfl, hlen⟩ | ⟨hop, p, lo, hi, d, rfl, hlen⟩ := h
  · fin_cases hop <;> exact ⟨_, rfl⟩
  · obtain ⟨b, rfl⟩ := List.length_eq_one_iff.1 hlen
    exact ⟨.crcUpd b, rfl⟩
  · exact ⟨.rdreg r, decodeOfEncode (.rdreg r) (decide_eq_true hr) rfl⟩
  · exact ⟨.seqPcb f, decodeOfEncode (.seqPcb f) (decide_eq_true hf) rfl⟩
  · obtain ⟨lo, hi, rfl⟩ := List.length_eq_two.1 hlen
    exact ⟨.crcSeed (fromLe16 lo hi), rfl⟩
  · obtain ⟨b0, b1, b2, rfl⟩ := List.length_eq_three.1 hlen
    exact ⟨.frmHdr b0 b1 b2, rfl⟩
  · have hparse : Format.V.parse (lo :: hi :: d) = some (.data d) := by simp [Format.parse, fromLe16_toNat, hlen]
    fin_cases hop <;> exact ⟨_, (decode_cons rfl hparse).trans rfl⟩
  · have hparse : Format.X.parse (p :: lo :: hi :: d) = some (.pcbData p d) := by
      simp [Format.parse, fromLe16_toNat, hlen]
    fin_cases hop <;> exact ⟨_, (decode_cons rfl hparse).trans rfl⟩

theorem decodes_iff_legalMessage (m : Bytes) : (∃ i, decode m = .ok i) ↔ legalMessage m := by
  refine ⟨fun ⟨i, h⟩ => ?_, decodes_of_legalMessage⟩
  obtain ⟨rfl, hw, hc⟩ := encodeOfDecode m i h
  exact legalMessage_encode hw hc

theorem decode_error_iff (m : Bytes) : (∃ e, decode m = .error e) ↔ ¬ ∃ i, decode m = .ok i := by
  cases decode m <;> simp

/-- A ready block refuses with the response `05 00 00` and is ready again. -/
theorem raise_illegalCommand_of_idle {s : State} (hp : s.phase = .idle) :
    raise .illegalCommand s = { s with
      err := 5#8, einfo := 0#16, outbox := s.outbox ++ [[5#8, 0#8, 0#8]] } := by
  cases s; cases hp; rfl

/-- Settles O44: the legal messages are the encodings of the well-formed commands; taking any other message raises
`IllegalCommand`. -/
theorem illegalMessagesRefused : Obligations.IllegalMessagesRefused :=
  ⟨fun m => (decode_error_iff m).trans (not_congr (decodes_iff_legalMessage m)),
    fun s _ rest _ hp hi hd =>
      (step_illegal hp hi hd).trans (congrArg _ (raise_illegalCommand_of_idle (s := dropCommand rest s) hp))⟩

/-! ### Messages and PCBs of the spec's text -/

/-- Settles O48: each message by running the decoder. -/
theorem spelledMessagesDecode : Obligations.SpelledMessagesDecode := by
  unfold Obligations.SpelledMessagesDecode
  exact ⟨rfl, rfl, rfl, rfl, rfl, rfl, rfl, rfl⟩

theorem defaultIblock_has_iff : ∀ p : Byte, PcbSet.defaultIblock.has p = true ↔ p.toNat < 128 := by decide +kernel

theorem defaultChain_has_iff :
    ∀ p : Byte, PcbSet.defaultChain.has p = true ↔ p.toNat < 128 ∧ p.toNat / 32 % 2 = 1 := by decide +kernel

/-- Mask 0x80, match 0x00 is bit 7 clear. -/
theorem iblockPattern_iff : ∀ p : Byte, iblockPattern p ↔ p.toNat < 128 := by decide +kernel

/-- Mask 0xA0, match 0x20 is bit 7 clear and bit 5 set. -/
theorem chainPattern_iff : ∀ p : Byte, chainPattern p ↔ p.toNat < 128 ∧ p.toNat / 32 % 2 = 1 := by decide +kernel

/-- Settles O47: the default sets and the table's mask and match are the same tests on the PCB as a number. -/
theorem defaultPcbClasses : Obligations.DefaultPcbClasses := by
  refine ⟨defaultIblock_has_iff, defaultChain_has_iff, fun p => ?_, fun p => ?_, fun p => ?_, by decide⟩
  · simp only [decodePcb, iblockPattern_iff, defaultIblock_has_iff]
  · simp only [decodePcb, chainPattern_iff, defaultChain_has_iff]
  · simp only [decodePcb, ← BitVec.toNat_inj]; rfl

end Sys2Proof.Machine
end

section
/-! Every command answers a next state, and it answers the host once: a completed command or a failure appends one
response of status `ERR`, an exchange in progress none (30_encoding.md R65). -/

namespace Sys2Proof.Machine

/-! ### Every step answers -/

theorem exec_answers_next (i : Instr) (s : State) : ∃ t, exec i s = .next t := by
  cases i with
  | rdreg r => obtain ⟨v, -, h⟩ | ⟨-, h⟩ := execRdreg_cases r s <;> exact ⟨_, h⟩
  | frmEnc p d => obtain ⟨-, h⟩ | ⟨-, h⟩ := execFrmEnc_cases p d s <;> exact ⟨_, h⟩
  | frmVal d => obtain h | ⟨x, y, h⟩ | h := execFrmVal_cases d s <;> exact ⟨_, h⟩
  | seqPcb m => obtain h | h := execSeqPcb_cases m s <;> exact ⟨_, h⟩
  | xchg p d => obtain ⟨-, h⟩ | ⟨-, h⟩ := execXchg_cases p d s <;> exact ⟨_, h⟩
  | _ => exact ⟨_, rfl⟩

theorem step_answers_next (s : State) : ∃ t, step s = .next t := by
  by_cases hp : s.phase = .idle
  · obtain ⟨hi, -⟩ | ⟨m, rest, i, hi, hd, -⟩ | ⟨m, rest, e, hi, hd, -⟩ := fetch_cases s
    · exact ⟨_, step_nothing hp hi⟩
    · rw [step_command hp hi hd]; exact exec_answers_next i _
    · exact ⟨_, step_illegal hp hi hd⟩
  · exact ⟨_, step_exchange hp⟩

/-- Settles O51: every outcome of every command, and every kind of step, is a next state. -/
theorem everyStepAnswersNext : Obligations.EveryStepAnswersNext := ⟨exec_answers_next, step_answers_next⟩

/-! ### One response -/

/-- From `s` to `t` one response was delivered, its status the value of `ERR`. -/
def respondedOnce (s t : State) : Prop :=
  t.phase = .idle ∧ ∃ d : Bytes, d.length ≤ 65535 ∧ t.outbox = s.outbox ++ [responseMessage t.err d]

/-- From `s` to `t` the command under way was answered, or it goes on and no response was delivered. -/
def respondedOrRunning (s t : State) : Prop := respondedOnce s t ∨ (t.phase ≠ .idle ∧ t.outbox = s.outbox)

theorem respondedOnce_complete {s u : State} {d : Bytes} (hout : u.outbox = s.outbox) (hp : u.phase = .idle)
    (hd : d.length ≤ 65535) : respondedOnce s (complete d u) :=
  ⟨hp, d, hd, by simp [hout]⟩

theorem respondedOnce_raise {s u : State} (f : Failure) (hout : u.outbox = s.outbox) : respondedOnce s (raise f u) :=
  ⟨rfl, failureData f, failureData_length_le f, by simp [hout]⟩

theorem execRdreg_responds {r : Byte} {s : State} (hr : r ≤ 3#8) :
    ∃ v, execRdreg r s = .next (respond 0#8 (le16 v) s) := by
  obtain ⟨v, -, h⟩ | ⟨hnone, -⟩ := execRdreg_cases r s
  · exact ⟨v, h⟩
  · have hr' : r.toNat ≤ 3 := hr
    obtain h | h | h | h : r = 0#8 ∨ r = 1#8 ∨ r = 2#8 ∨ r = 3#8 := by bv_omega
    all_goals subst h; cases hnone

/-- A command other than `RDREG` responds with `ERR`, but for an exchange that starts. -/
theorem exec_responds {i : Instr} {s t : State} (hp : s.phase = .idle) (hc : i.isCommand = true)
    (hi : ∀ r, i ≠ .rdreg r) (he : exec i s = .next t) : respondedOrRunning s t := by
  cases i with
  | rdreg r => exact absurd rfl (hi r)
  | pcbIblock | pcbReset | pcbChain => cases hc
  | frmEnc p d =>
    obtain ⟨-, hr⟩ | ⟨hd, hr⟩ := execFrmEnc_cases p d s <;> cases hr.symm.trans he
    · exact .inl (respondedOnce_raise _ rfl)
    · exact .inl (respondedOnce_complete rfl hp (by simp; omega))
  | frmVal d =>
    obtain hr | ⟨x, y, hr⟩ | hr := execFrmVal_cases d s <;> cases hr.symm.trans he
    · exact .inl (respondedOnce_raise _ rfl)
    · exact .inl (respondedOnce_raise _ rfl)
    · exact .inl (respondedOnce_complete rfl hp (length_take_headerLen_le _ _))
  | seqPcb m =>
    obtain hr | hr := execSeqPcb_cases m s <;> cases hr.symm.trans he
    · exact .inl (respondedOnce_complete rfl hp (by simp))
    · exact .inl (respondedOnce_raise _ rfl)
  | xchg p d =>
    obtain ⟨-, hr⟩ | ⟨hd, hr⟩ := execXchg_cases p d s <;> cases hr.symm.trans he
    · exact .inl (respondedOnce_raise _ (by simp))
    · exact .inr ⟨nofun, by simp⟩
  | sreset => cases he; exact .inl (respondedOnce_complete rfl rfl (by simp))
  | crcRead | frmHdr => cases he; exact .inl (respondedOnce_complete rfl hp (by simp [le16]))
  | _ => cases he; exact .inl (respondedOnce_complete rfl hp (by simp))

/-- A row of the exchange, given what the handling of an `ok` answer does. -/
theorem portStep_responds {op : PortOp} {onOk : Bytes → State → State} {s : State} (hp : s.phase ≠ .idle)
    (hok : ∀ v t, t.outbox = s.outbox → respondedOrRunning s (onOk v t)) :
    respondedOrRunning s (portStep op onOk s) := by
  obtain ⟨v, -, hs⟩ | ⟨-, hs⟩ | ⟨e, hs⟩ := portStep_answers op onOk s <;> rw [hs]
  · exact hok v _ (by simp)
  · exact .inr ⟨by simpa using hp, by simp⟩
  · exact .inl (respondedOnce_raise _ (by simp))

theorem settleExchange_responds {s t : State} (hout : t.outbox = s.outbox) : respondedOnce s (settleExchange t) := by
  obtain ⟨x, y, hs⟩ | hs := settleExchange_cases t <;> rw [hs]
  · exact respondedOnce_raise _ (by simpa using hout)
  · exact respondedOnce_complete (by simpa using hout) rfl (length_take_headerLen_le _ _)

theorem exchangeStep_responds {s : State} (hp : s.phase ≠ .idle) : respondedOrRunning s (exchangeStep s) := by
  unfold exchangeStep
  split
  · next h => exact absurd h hp
  · exact portStep_responds hp fun v t hout => .inr ⟨nofun, hout⟩
  · refine portStep_responds hp fun v t hout => ?_
    obtain hs | ⟨-, hs⟩ := headerRead_cases v t <;> rw [hs]
    · exact .inl (respondedOnce_raise _ hout)
    · exact .inr ⟨nofun, by simpa using hout⟩
  · refine portStep_responds hp fun v t hout => ?_
    obtain hs | ⟨-, hs⟩ := bodyRead_cases v t <;> rw [hs]
    · exact .inl (respondedOnce_raise _ hout)
    · exact .inl (settleExchange_responds hout)

/-! ### The step -/

/-- The step from `s` takes an `RDREG` of a legal register: the one command whose response does not report `ERR`
(92_eei_decisions.md D3). -/
def takesLegalRdreg (s : State) : Prop :=
  s.phase = .idle ∧ ∃ (r : Byte) (rest : List Bytes), r ≤ 3#8 ∧ s.inbox = [0x01#8, r] :: rest

theorem decode_eq_rdreg {m : Bytes} {r : Byte} : decode m = .ok (.rdreg r) ↔ r ≤ 3#8 ∧ m = [0x01#8, r] := by
  constructor
  · intro h
    obtain ⟨henc, hw, -⟩ := encodeOfDecode m _ h
    exact ⟨of_decide_eq_true hw, henc.symm⟩
  · rintro ⟨hr, rfl⟩
    exact decodeOfEncode (.rdreg r) (decide_eq_true hr) rfl

theorem step_of_takesLegalRdreg {s t : State} (h : takesLegalRdreg s) (hs : step s = .next t) :
    t.phase = .idle ∧ t.err = s.err ∧ t.einfo = s.einfo ∧
      ∃ v, t.outbox = s.outbox ++ [responseMessage 0#8 (le16 v)] := by
  obtain ⟨hp, r, rest, hr, hi⟩ := h
  obtain ⟨v, hv⟩ := execRdreg_responds (s := dropCommand rest s) hr
  cases ((step_command hp hi (decode_eq_rdreg.2 ⟨hr, rfl⟩)).trans hv).symm.trans hs
  exact ⟨hp, rfl, rfl, v, rfl⟩

/-- Any other step that is no idle one. -/
theorem step_of_not_takesLegalRdreg {s t : State} (h : ¬ takesLegalRdreg s) (hb : s.phase ≠ .idle ∨ s.inbox ≠ [])
    (hs : step s = .next t) : respondedOrRunning s t := by
  obtain ⟨hp, hi, -⟩ | ⟨hp, m, rest, i, hi, hd, he⟩ | ⟨-, m, rest, e, -, -, rfl⟩ | ⟨hp, rfl⟩ := step_cases hs
  · exact absurd hb (by simp [hp, hi])
  · obtain ⟨-, -, hc⟩ := encodeOfDecode m i hd
    refine exec_responds (s := dropCommand rest s) hp hc (fun r hr => h ⟨hp, r, rest, ?_⟩) he
    obtain ⟨hr3, rfl⟩ := decode_eq_rdreg.1 (hr ▸ hd)
    exact ⟨hr3, hi⟩
  · exact .inl (respondedOnce_raise _ rfl)
  · exact exchangeStep_responds hp

/-- A response message as its three parts (30_encoding.md R65). -/
theorem responseMessage_eq (c : Byte) {d : Bytes} (hd : d.length ≤ 65535) :
    ∃ lo hi, responseMessage c d = c :: lo :: hi :: d ∧ d.length = lo.toNat + 256 * hi.toNat := by
  obtain ⟨lo, hi, hfield, hlen⟩ := le16_length_field hd
  exact ⟨lo, hi, by simp only [responseMessage, hfield]; rfl, hlen⟩

/-- Settles O39: the step of a legal `RDREG`, and every other. -/
theorem oneResponsePerCommand : Obligations.OneResponsePerCommand := by
  intro s t hs
  refine ⟨fun hp hi => by cases (step_nothing hp hi).symm.trans hs; rfl, fun hb => ?_⟩
  change _ ∧ (_ → ∃ status lo hi data, _ ∧ _ ∧ (takesLegalRdreg s → _) ∧ (¬ takesLegalRdreg s → _))
  by_cases hr : takesLegalRdreg s
  · obtain ⟨hp, herr, heinfo, v, hout⟩ := step_of_takesLegalRdreg hr hs
    obtain ⟨lo, hi, hmsg, hlen⟩ := responseMessage_eq 0#8 (d := le16 v) (by simp [le16])
    exact ⟨fun hne => absurd hp hne, fun _ =>
      ⟨0#8, lo, hi, le16 v, hmsg ▸ hout, hlen, fun _ => ⟨rfl, herr, heinfo⟩, fun hn => absurd hr hn⟩⟩
  · obtain ⟨hp, d, hd, hout⟩ | ⟨hp, hout⟩ := step_of_not_takesLegalRdreg hr hb hs
    · obtain ⟨lo, hi, hmsg, hlen⟩ := responseMessage_eq t.err hd
      exact ⟨fun hne => absurd hp hne, fun _ =>
        ⟨t.err, lo, hi, d, hmsg ▸ hout, hlen, fun h => absurd h hr, fun _ => rfl⟩⟩
    · exact ⟨fun _ => hout, fun h => absurd h hp⟩

end Sys2Proof.Machine
end

section
/-! The pseudo-operations `CRC16` and `FCS16` (30_encoding.md R68): the pieces the data is cut into, then the run of
`CRC.BLK` over them. -/

namespace Sys2Proof.Machine

/-! ### The cut -/

theorem flatten_piecesFuel (k fuel : Nat) (d : Bytes) : (piecesFuel k fuel d).flatten = d := by
  induction fuel generalizing d with
  | zero => simp [piecesFuel]
  | succ fuel ih =>
    unfold piecesFuel
    split
    · simp
    · simp [ih]

/-- With a cut for each byte there are enough, since each takes at least one byte away. -/
theorem length_le_of_mem_piecesFuel {k fuel : Nat} {d piece : Bytes} (hk : 0 < k) (hd : d.length ≤ fuel)
    (hp : piece ∈ piecesFuel k fuel d) : piece.length ≤ k := by
  induction fuel generalizing d with
  | zero =>
    obtain rfl : piece = d := by simpa [piecesFuel] using hp
    omega
  | succ fuel ih =>
    unfold piecesFuel at hp
    split at hp
    · next hle => rw [List.mem_singleton.1 hp]; exact hle
    · obtain rfl | hp := List.mem_cons.1 hp
      · exact List.length_take_le k d
      · exact ih (by rw [List.length_drop]; omega) hp

theorem flatten_crcPieces (d : Bytes) : (crcPieces d).flatten = d := flatten_piecesFuel _ _ d

/-- Each piece fits a `CRC.BLK` (92_eei_decisions.md D31). -/
theorem length_le_of_mem_crcPieces {d piece : Bytes} (h : piece ∈ crcPieces d) : piece.length ≤ 65535 :=
  length_le_of_mem_piecesFuel (by decide) le_rfl h

/-! ### The run -/

theorem execAll_cons {i : Instr} {rest : List Instr} {s t : State} (h : exec i s = .next t) :
    execAll (i :: rest) s = execAll rest t := by
  simp [execAll, h]

theorem execAll_append {is js : List Instr} {s t : State} (h : execAll is s = .next t) :
    execAll (is ++ js) s = execAll js t := by
  induction is generalizing s with
  | nil => cases h; rfl
  | cons i rest ih =>
    obtain ⟨u, hu⟩ := exec_answers_next i s
    rw [List.cons_append, execAll_cons hu]
    exact ih ((execAll_cons hu).symm.trans h)

/-- `s` after `k` successful commands without a result, of which the last left `c` in `CRC`. -/
def accumulated (c : Half) (k : Nat) (s : State) : State :=
  { s with crc := c, err := 0#8, einfo := 0#16, outbox := s.outbox ++ List.replicate k [0#8, 0#8, 0#8] }

theorem complete_accumulated (c c' : Half) (k : Nat) (s : State) :
    complete [] (setCrc c' (accumulated c k s)) = accumulated c' (k + 1) s := by
  simp only [accumulated, List.replicate_succ', ← List.append_assoc]; rfl

theorem execAll_crcBlk (pieces : List Bytes) (c : Half) (k : Nat) (s : State) :
    execAll (pieces.map Instr.crcBlk) (accumulated c k s) =
      .next (accumulated (crc16 pieces.flatten c) (k + pieces.length) s) := by
  induction pieces generalizing c k with
  | nil => rfl
  | cons piece rest ih =>
    have hblk : exec (.crcBlk piece) (accumulated c k s) = .next (accumulated (crc16 piece c) (k + 1) s) :=
      congrArg _ (complete_accumulated c (crc16 piece c) k s)
    rw [List.map_cons, execAll_cons hblk, ih, List.flatten_cons, crc16_append, List.length_cons, Nat.add_right_comm]
    rfl

/-- Seeding and folding in all the pieces, before the operation that reads the result. -/
theorem execAll_seed_pieces (d : Bytes) (seed : Half) (i : Instr) (s : State) :
    execAll (Instr.crcSeed seed :: (crcPieces d).map Instr.crcBlk ++ [i]) s =
      exec i (accumulated (crc16 d seed) (1 + (crcPieces d).length) s) := by
  have hrun : execAll (Instr.crcSeed seed :: (crcPieces d).map Instr.crcBlk) s =
      .next (accumulated (crc16 d seed) (1 + (crcPieces d).length) s) := by
    rw [execAll_cons (t := accumulated seed 1 s) rfl, execAll_crcBlk, flatten_crcPieces]
  obtain ⟨t, ht⟩ := exec_answers_next i (accumulated (crc16 d seed) (1 + (crcPieces d).length) s)
  rw [execAll_append hrun, execAll_cons ht, ht]; rfl

theorem encodable_seed_pieces {d : Bytes} {seed : Half} {last i : Instr}
    (hlast : last.wf = true ∧ last.isCommand = true)
    (h : i ∈ Instr.crcSeed seed :: (crcPieces d).map Instr.crcBlk ++ [last]) : i.wf = true ∧ i.isCommand = true := by
  rw [List.cons_append, List.mem_cons, List.mem_append, List.mem_map, List.mem_singleton] at h
  obtain rfl | ⟨piece, hp, rfl⟩ | rfl := h
  · exact ⟨rfl, rfl⟩
  · exact ⟨decide_eq_true (length_le_of_mem_crcPieces hp), rfl⟩
  · exact hlast

theorem responseMessage_two_bytes (status a b : Byte) : responseMessage status [a, b] = [status, 2#8, 0#8, a, b] := by
  simp [responseMessage, le16_ofNat]

/-- The operation that reads the result returns two bytes. -/
theorem complete_two_bytes_accumulated (c : Half) (k : Nat) (s : State) (a b : Byte) :
    complete [a, b] (accumulated c k s) = { s with
      crc := c, err := 0#8, einfo := 0#16
      outbox := s.outbox ++ List.replicate k [0#8, 0#8, 0#8] ++ [[0#8, 2#8, 0#8, a, b]] } := by
  rw [← responseMessage_two_bytes]; rfl

/-- Settles O52: by the run up to the last operation, which returns the accumulator or its complement. -/
theorem pseudoCrcContracts : Obligations.PseudoCrcContracts := by
  refine fun d seed s => ⟨fun i => encodable_seed_pieces ⟨rfl, rfl⟩, fun i => encodable_seed_pieces ⟨rfl, rfl⟩,
    ⟨1 + (crcPieces d).length, ?_⟩, ⟨1 + (crcPieces d).length, ?_⟩⟩
  · rw [pseudoCrc16, execAll_seed_pieces, ← lo8_eq_lowByte, ← hi8_eq_highByte]
    exact congrArg _ (complete_two_bytes_accumulated _ _ s _ _)
  · rw [pseudoFcs16, execAll_seed_pieces]
    exact congrArg _ (complete_two_bytes_accumulated _ _ s _ _)

end Sys2Proof.Machine
end

section
/-! The PCB rows of the table, and `RESETX` (30_encoding.md R54 to R57, R68): the exchange's own operations on a fixed
PCB. -/

namespace Sys2Proof.Machine

/-- Settles O29: each row is one shared operation of the exchange, by the value of its test. -/
theorem pcbRowsActAsExchangeSteps : Obligations.PcbRowsActAsExchangeSteps := by
  refine fun s p => ⟨rfl, fun h => ?_, fun h => ?_, fun h hsink => ?_, fun h => ?_⟩
  · simp [exec, execPcbIblock, seqOnSuccess, h, seqFlip]
  · simp [exec, execPcbIblock, seqOnSuccess, h]
  · simp [exec, execPcbChain, chainDiagnostic, diagnose, h, hsink]
  · obtain h | h := h <;> simp [exec, execPcbChain, chainDiagnostic, diagnose, h]

/-- The checksum bytes as numbers (40_crc.md R83). -/
theorem fcs_eq (d : Bytes) :
    fcs d = [lowByte (crc16 d SEED0 ^^^ 0xFFFF#16), highByte (crc16 d SEED0 ^^^ 0xFFFF#16)] := by
  rw [fcs, fcsOf, le16_eq_lowByte_highByte, ← BitVec.xor_allOnes]; rfl

/-- Settles O54: `XCHG` of the reset value, whose empty payload fits. -/
theorem resetxForcesBit : Obligations.ResetxForcesBit := by
  intro s c hc
  have hstart := execXchg_fits (pcb := 0xCF#8) (d := []) (s := s) (by simp)
  rw [fcs_eq] at hstart
  subst hc
  exact hstart

end Sys2Proof.Machine
end

section
/-! The small-step machine reaches the end of the whole operation (43_transaction.md R142, R143): a phase makes the
attempts of its `retry` one a step, so the three phases take at most `MAXATT` steps each. -/

namespace Sys2Proof.Machine

/-! ### Runs of bounded length -/

/-- At most `n` steps lead from `s` to `t`. -/
def reachesWithin (n : Nat) (s t : State) : Prop := ∃ k, k ≤ n ∧ runSteps k s = .next t

theorem reachesWithin_refl (n : Nat) (s : State) : reachesWithin n s s := ⟨0, Nat.zero_le n, rfl⟩

theorem reachesWithin_step {n : Nat} {s t u : State} (hs : step s = .next t) (h : reachesWithin n t u) :
    reachesWithin (n + 1) s u := by
  obtain ⟨k, hk, hrun⟩ := h
  exact ⟨k + 1, by omega, by simpa [runSteps, hs] using hrun⟩

theorem runSteps_trans {m n : Nat} {s t u : State} (h : runSteps m s = .next t) (h' : runSteps n t = .next u) :
    runSteps (m + n) s = .next u := by
  induction m generalizing s with
  | zero => cases h; rwa [Nat.zero_add]
  | succ m ih =>
    obtain ⟨v, hv⟩ := step_answers_next s
    simp only [runSteps, hv, Nat.succ_add] at h ⊢
    exact ih h

theorem reachesWithin_trans {m n : Nat} {s t u : State} (h : reachesWithin m s t) (h' : reachesWithin n t u) :
    reachesWithin (m + n) s u := by
  obtain ⟨j, hj, hrun⟩ := h
  obtain ⟨k, hk, hrun'⟩ := h'
  exact ⟨j + k, by omega, runSteps_trans hrun hrun'⟩

/-! ### One phase -/

/-- What a phase does with the result of its `retry`. -/
def handleResult (onOk : Bytes → State → State) : PortAnswer × State → State
  | (.ok v, t) => onOk v t
  | (.err e, t) => raise (.transportError e) t

theorem portStep_ok {op : PortOp} {onOk : Bytes → State → State} {s t : State} {v : Bytes}
    (h : callPort op s = (.ok v, t)) : portStep op onOk s = onOk v t := by
  simp [portStep, h]

theorem portStep_again {op : PortOp} {onOk : Bytes → State → State} {s t : State} {e : TErr}
    (h : callPort op s = (.err e, t)) (hatt : t.att < t.cfg.maxAtt.n) : portStep op onOk s = waitDelay t := by
  simp [portStep, h, hatt]

theorem portStep_last {op : PortOp} {onOk : Bytes → State → State} {s t : State} {e : TErr}
    (h : callPort op s = (.err e, t)) (hatt : t.cfg.maxAtt.n ≤ t.att) :
    portStep op onOk s = raise (.transportError e) t := by
  simp [portStep, h, hatt]

/-- With `k + 1` attempts left, the steps of a phase make the attempts of the retry loop. The states between them are
those that `running` describes. -/
theorem retryLoop_reached {op : PortOp} {onOk : Bytes → State → State} {running : State → Prop}
    (hstep : ∀ u, running u → step u = .next (portStep op onOk u))
    (hagain : ∀ u, running u → running (waitDelay (callPort op u).2)) {k : Nat} {s : State} (hs : running s)
    (hatt : s.att + (k + 1) = s.cfg.maxAtt.n) : reachesWithin (k + 1) s (handleResult onOk (retryLoop op k s)) := by
  induction k generalizing s with
  | zero =>
    have hcount : (callPort op s).2.cfg.maxAtt.n ≤ (callPort op s).2.att := by simp; omega
    refine reachesWithin_step (hstep s hs) ?_
    rcases h : callPort op s with ⟨v | e, t⟩
    · rw [portStep_ok h, retryLoop_ok h]
      exact reachesWithin_refl 0 _
    · rw [h] at hcount
      rw [portStep_last h hcount, retryLoop_last h]
      exact reachesWithin_refl 0 _
  | succ k ih =>
    have hcount : (callPort op s).2.att + (k + 1) = (callPort op s).2.cfg.maxAtt.n := by simp; omega
    have hleft : (callPort op s).2.att < (callPort op s).2.cfg.maxAtt.n := by omega
    have hrunning := hagain s hs
    refine reachesWithin_step (hstep s hs) ?_
    rcases h : callPort op s with ⟨v | e, t⟩
    · rw [portStep_ok h, retryLoop_ok h]
      exact reachesWithin_refl _ _
    · rw [h] at hcount hrunning hleft
      rw [portStep_again h hleft, retryLoop_again h]
      exact ih hrunning hcount

/-- A phase, from its entry. -/
theorem retry_reached {op : PortOp} {onOk : Bytes → State → State} {running : State → Prop} {p : Phase} {s : State}
    (hstep : ∀ u, running u → step u = .next (portStep op onOk u))
    (hagain : ∀ u, running u → running (waitDelay (callPort op u).2)) (hs : running (enterPhase p s)) :
    reachesWithin s.cfg.maxAtt.n (enterPhase p s) (handleResult onOk (retry op (setPhase p s))) := by
  have hatt : (enterPhase p s).att + (s.cfg.maxAtt.n - 1 + 1) = s.cfg.maxAtt.n := by
    rw [enterPhase_att, Nat.zero_add, Nat.sub_add_cancel s.cfg.maxAtt.pos]
  have h := retryLoop_reached hstep hagain hs hatt
  rwa [Nat.sub_add_cancel s.cfg.maxAtt.pos] at h

theorem step_of_write {s : State} (hp : s.phase = .write) : step s = .next (writeStep s) := by
  rw [step_exchange (by simp [hp])]; simp [exchangeStep, hp]

theorem step_of_rdhdr {s : State} (hp : s.phase = .rdhdr) : step s = .next (rdhdrStep s) := by
  rw [step_exchange (by simp [hp])]; simp [exchangeStep, hp]

theorem step_of_rdbody {s : State} (hp : s.phase = .rdbody) : step s = .next (rdbodyStep s) := by
  rw [step_exchange (by simp [hp])]; simp [exchangeStep, hp]

/-! ### The three phases -/

theorem wholeFromBody_reached (s : State) :
    reachesWithin s.cfg.maxAtt.n (enterPhase .rdbody s) (wholeFromBody s) := by
  have h := retry_reached (op := .read (headerLen s.rxhdr + FCS_LEN)) (onOk := bodyRead) (s := s)
    (running := fun u => u.phase = .rdbody ∧ u.rxhdr = s.rxhdr)
    (fun u ⟨hp, hhdr⟩ => by rw [step_of_rdbody hp, rdbodyStep, hhdr]) (fun u hu => by simpa using hu) ⟨rfl, rfl⟩
  have hhdr := retry_rxhdr (.read (headerLen s.rxhdr + FCS_LEN)) (setPhase .rdbody s)
  rcases hr : retry (.read (headerLen s.rxhdr + FCS_LEN)) (setPhase .rdbody s) with ⟨v | e, t⟩
  all_goals rw [hr] at h hhdr
  · rw [wholeFromBody_ok hr, ← setPhase_rxhdr .rdbody s, ← hhdr]
    exact h
  · rw [wholeFromBody_err hr]
    exact h

theorem wholeFromHeader_reached (s : State) :
    reachesWithin (2 * s.cfg.maxAtt.n) (enterPhase .rdhdr s) (wholeFromHeader s) := by
  have h := retry_reached (op := .read HDR_LEN) (onOk := headerRead) (s := s) (running := fun u => u.phase = .rdhdr)
    (fun u hp => step_of_rdhdr hp) (fun u hu => by simpa using hu) rfl
  have hcfg := retry_cfg (.read HDR_LEN) (setPhase .rdhdr s)
  rcases hr : retry (.read HDR_LEN) (setPhase .rdhdr s) with ⟨v | e, t⟩
  all_goals rw [hr] at h hcfg
  · have hbody := wholeFromBody_reached (chainDiagnostic (headerPcb v) (holdHeader v t))
    rw [chainDiagnostic_cfg, holdHeader_cfg, hcfg, setPhase_cfg] at hbody
    rw [wholeFromHeader_ok hr, Nat.two_mul]
    refine reachesWithin_trans h ?_
    change reachesWithin _ (headerRead v t) _
    unfold headerRead
    split_ifs
    · exact reachesWithin_refl _ _
    · exact hbody
  · rw [wholeFromHeader_err hr, Nat.two_mul]
    exact reachesWithin_trans h (reachesWithin_refl _ _)

theorem wholeFromWrite_reached (s : State) :
    reachesWithin (3 * s.cfg.maxAtt.n) (enterPhase .write s) (wholeFromWrite s) := by
  have h := retry_reached (op := .write s.txbuf) (onOk := fun _ => enterPhase .rdhdr) (s := s)
    (running := fun u => u.phase = .write ∧ u.txbuf = s.txbuf)
    (fun u ⟨hp, htx⟩ => by rw [step_of_write hp, writeStep, htx]) (fun u hu => by simpa using hu) ⟨rfl, rfl⟩
  have hcfg := retry_cfg (.write s.txbuf) (setPhase .write s)
  have hsum : 3 * s.cfg.maxAtt.n = s.cfg.maxAtt.n + 2 * s.cfg.maxAtt.n := by omega
  rw [hsum]
  refine reachesWithin_trans h ?_
  rcases hr : retry (.write s.txbuf) (setPhase .write s) with ⟨v | e, t⟩
  all_goals rw [hr] at hcfg
  · have hheader := wholeFromHeader_reached t
    rw [hcfg] at hheader
    rw [wholeFromWrite_ok hr]
    exact hheader
  · rw [wholeFromWrite_err hr]
    exact reachesWithin_refl _ _

/-! ### The whole exchange -/

/-- The state with the request of `XCHG p, d` built, where the payload fits (43_transaction.md R134). -/
def requestBuilt (p : Byte) (d : Bytes) (s : State) : State :=
  holdFrame (crc16 (frameHead s.cfg.nad p d) SEED0) (frameHead s.cfg.nad p d ++ fcs (frameHead s.cfg.nad p d)) s

theorem buildRequest_eq_requestBuilt {p : Byte} {d : Bytes} {s : State} (h : d.length ≤ 253) :
    buildRequest p d s = some (requestBuilt p d s) :=
  buildRequest_fits h

/-- The frame carries the request's PCB (30_encoding.md R50). -/
theorem requestPcb_requestBuilt (p : Byte) (d : Bytes) (s : State) : requestPcb (requestBuilt p d s) = p := rfl

theorem exec_xchg_fits {p : Byte} {d : Bytes} {s : State} (h : d.length ≤ 253) :
    exec (.xchg p d) s = .next (enterPhase .write (requestBuilt p d (seqOnRequest p s))) := by
  simp [exec, execXchg, buildRequest_eq_requestBuilt h]

theorem xchgWhole_tooLong {p : Byte} {d : Bytes} {s : State} (h : 254 ≤ d.length) :
    xchgWhole p d s = raise .frameTooLong (seqOnRequest p s) := by
  simp [xchgWhole, buildRequest_tooLong h]

theorem xchgWhole_fits {p : Byte} {d : Bytes} {s : State} (h : d.length ≤ 253) :
    xchgWhole p d s = wholeFromWrite (requestBuilt p d (seqOnRequest p s)) := by
  simp [xchgWhole, buildRequest_eq_requestBuilt h]

/-- From the state in which `XCHG` leaves its first step, the machine reaches the end of the whole operation. -/
theorem xchgWhole_reached {p : Byte} {d : Bytes} {s t : State} (h : exec (.xchg p d) s = .next t) :
    reachesWithin (3 * s.cfg.maxAtt.n) t (xchgWhole p d s) := by
  obtain hd | hd : 254 ≤ d.length ∨ d.length ≤ 253 := by omega
  · cases (execXchg_tooLong hd).symm.trans h
    rw [xchgWhole_tooLong hd]
    exact reachesWithin_refl _ _
  · cases (exec_xchg_fits hd).symm.trans h
    rw [xchgWhole_fits hd, ← seqOnRequest_cfg p s]
    exact wholeFromWrite_reached (requestBuilt p d (seqOnRequest p s))

end Sys2Proof.Machine
end

section
/-! `IXCHG` (30_encoding.md R68): the PCB it sends, and what the end of the exchange leaves in `SEQ`. -/

namespace Sys2Proof.Machine

/-! ### The sequence bit at the end -/

/-- From `s`, which holds the request, to `t`, the exchange ended: with `OK` step 8 has been made (43_transaction.md
R141), with a failure `SEQ` is left (60_exceptions.md R177). -/
def seqSettled (s t : State) : Prop :=
  (t.err = 0#8 ∧ t.seq = bif s.cfg.iblock.has (requestPcb s) then s.seq ^^^ 1#1 else s.seq) ∨
  (t.err ≠ 0#8 ∧ t.seq = s.seq)

/-- `u` has the request, the bit and the configuration of `s`. -/
def sameRequest (s u : State) : Prop := u.seq = s.seq ∧ u.cfg = s.cfg ∧ u.txbuf = s.txbuf

theorem failureCode_ne_zero (f : Failure) : failureCode f ≠ 0#8 := by
  cases f <;> simp [failureCode]

theorem seqSettled_raise {s u : State} (f : Failure) (h : sameRequest s u) : seqSettled s (raise f u) := by
  obtain ⟨hseq, -, -⟩ := h
  exact .inr ⟨failureCode_ne_zero f, hseq⟩

theorem seqSettled_settleExchange {s u : State} (h : sameRequest s u) : seqSettled s (settleExchange u) := by
  obtain ⟨x, y, hs⟩ | hs := settleExchange_cases u <;> rw [hs]
  · exact seqSettled_raise _ h
  · obtain ⟨hseq, hcfg, htx⟩ := h
    exact .inl ⟨rfl, by simp [requestPcb, hseq, hcfg, htx]⟩

theorem sameRequest_retry {s u : State} (op : PortOp) (p : Phase) (h : sameRequest s u) :
    sameRequest s (retry op (setPhase p u)).2 := by
  simpa [sameRequest] using h

theorem seqSettled_wholeFromBody {s u : State} (h : sameRequest s u) : seqSettled s (wholeFromBody u) := by
  have ht := sameRequest_retry (.read (headerLen u.rxhdr + FCS_LEN)) .rdbody h
  rcases hr : retry (.read (headerLen u.rxhdr + FCS_LEN)) (setPhase .rdbody u) with ⟨v | e, t⟩
  all_goals rw [hr] at ht
  · rw [wholeFromBody_ok hr]
    split_ifs
    · exact seqSettled_raise _ ht
    · exact seqSettled_settleExchange ht
  · rw [wholeFromBody_err hr]
    exact seqSettled_raise _ ht

theorem seqSettled_wholeFromHeader {s u : State} (h : sameRequest s u) : seqSettled s (wholeFromHeader u) := by
  have ht := sameRequest_retry (.read HDR_LEN) .rdhdr h
  rcases hr : retry (.read HDR_LEN) (setPhase .rdhdr u) with ⟨v | e, t⟩
  all_goals rw [hr] at ht
  · rw [wholeFromHeader_ok hr]
    split_ifs
    · exact seqSettled_raise _ ht
    · exact seqSettled_wholeFromBody (by simpa [sameRequest] using ht)
  · rw [wholeFromHeader_err hr]
    exact seqSettled_raise _ ht

theorem seqSettled_wholeFromWrite (s : State) : seqSettled s (wholeFromWrite s) := by
  have ht := sameRequest_retry (s := s) (.write s.txbuf) .write ⟨rfl, rfl, rfl⟩
  rcases hr : retry (.write s.txbuf) (setPhase .write s) with ⟨v | e, t⟩
  all_goals rw [hr] at ht
  · rw [wholeFromWrite_ok hr]
    exact seqSettled_wholeFromHeader ht
  · rw [wholeFromWrite_err hr]
    exact seqSettled_raise _ ht

/-- Of a PCB that is not the reset value, so that step 1 leaves the bit (43_transaction.md R133). -/
theorem xchgWhole_seq {p : Byte} (d : Bytes) (s : State) (hp : p ≠ PCB_RESET) :
    ((xchgWhole p d s).err = 0#8 → (xchgWhole p d s).seq = bif s.cfg.iblock.has p then s.seq ^^^ 1#1 else s.seq) ∧
    ((xchgWhole p d s).err ≠ 0#8 → (xchgWhole p d s).seq = s.seq) := by
  have hreq : seqOnRequest p s = s := by simp [seqOnRequest, hp]
  obtain hd | hd : 254 ≤ d.length ∨ d.length ≤ 253 := by omega
  · rw [xchgWhole_tooLong hd, hreq]
    exact ⟨fun h => absurd h (failureCode_ne_zero .frameTooLong), fun _ => rfl⟩
  · rw [xchgWhole_fits hd, hreq]
    obtain ⟨herr, hseq⟩ | ⟨herr, hseq⟩ := seqSettled_wholeFromWrite (requestBuilt p d s)
    · rw [requestPcb_requestBuilt] at hseq
      exact ⟨fun _ => hseq, fun h => absurd herr h⟩
    · exact ⟨fun h => absurd h herr, fun _ => hseq⟩

/-! ### `IXCHG` -/

/-- The information-block PCB of the current bit without chaining (30_encoding.md R54). -/
theorem iblockPcb_zero : ∀ b : BitVec 1, iblockPcb b 0#1 = if b = 0#1 then 0x00#8 else 0x40#8 := by decide

theorem responseMessage_one_byte (status b : Byte) : responseMessage status [b] = [status, 1#8, 0#8, b] := by
  simp [responseMessage, le16_ofNat]

theorem exec_pseudoIxchgPcb (s : State) : exec pseudoIxchgPcb s = .next (complete [iblockPcb s.seq 0#1] s) := rfl

/-- The second operation of `IXCHG` takes its PCB from the response of the first. -/
theorem execIxchg_eq (d : Bytes) (s : State) :
    execIxchg d s = exec (.xchg (iblockPcb s.seq 0#1) d) (complete [iblockPcb s.seq 0#1] s) := by
  obtain ⟨t, ht⟩ := exec_answers_next (.xchg (iblockPcb s.seq 0#1) d) (complete [iblockPcb s.seq 0#1] s)
  simp only [execIxchg, pseudoIxchgOps, execLinked, exec_pseudoIxchgPcb, lastResponse_complete,
    resultByte_responseMessage, pseudoIxchg, ht]

theorem encodable_pseudoIxchgOps {d : Bytes} (hd : d.length ≤ 65535) {op : Bytes → Instr} (hop : op ∈ pseudoIxchgOps d)
    (response : Bytes) : (op response).wf = true ∧ (op response).isCommand = true := by
  obtain rfl | rfl : op = (fun _ => pseudoIxchgPcb) ∨ op = fun response => pseudoIxchg (resultByte response) d := by
    simpa [pseudoIxchgOps] using hop
  · exact ⟨rfl, rfl⟩
  · exact ⟨decide_eq_true hd, rfl⟩

/-- Settles O53: `SEQ.PCB 0` answers the PCB of the current bit, and the exchange that follows runs to its end. -/
theorem ixchgSendsCurrentBit : Obligations.IxchgSendsCurrentBit := by
  intro d s s1 p hp hs1
  obtain rfl : s1 = complete [p] s := by rw [hs1, ← responseMessage_one_byte]; rfl
  have hreset : p ≠ PCB_RESET := by rw [hp]; split_ifs <;> decide
  have hpcb : iblockPcb s.seq 0#1 = p := (iblockPcb_zero s.seq).trans hp.symm
  have hfirst := exec_pseudoIxchgPcb s
  have hixchg := execIxchg_eq d s
  rw [hpcb] at hfirst hixchg
  obtain ⟨t, ht⟩ := exec_answers_next (.xchg p d) (complete [p] s)
  obtain ⟨n, hn, hrun⟩ := xchgWhole_reached ht
  refine ⟨fun hd op => encodable_pseudoIxchgOps hd, hfirst, hixchg,
    ⟨t, n, hixchg.trans ht, hn, hrun, fun hd => ?_⟩, xchgWhole_seq d (complete [p] s) hreset⟩
  cases (exec_xchg_fits hd).symm.trans ht
  exact requestPcb_requestBuilt p d _

end Sys2Proof.Machine
end

section
/-! The laws of the CRC (40_crc.md R80, R82, R84). The inner loop is linear over exclusive or and injective; a byte
step is its eighth iterate and two byte steps its sixteenth, on the accumulator with the bytes added. -/

namespace Sys2Proof.Machine

/-! ### The inner loop -/

/-- One iteration of the inner loop on the value as a number (40_crc.md R80). -/
theorem crcShift_eq_half (x : Half) :
    crcShift x = if x.toNat % 2 = 1 then BitVec.ofNat 16 (x.toNat / 2) ^^^ 0x8408#16
      else BitVec.ofNat 16 (x.toNat / 2) := by
  have hodd : x.getLsbD 0 = decide (x.toNat % 2 = 1) := by rw [← BitVec.testBit_toNat, Nat.testBit_zero]
  have hhalf : x >>> 1 = BitVec.ofNat 16 (x.toNat / 2) := by
    apply BitVec.eq_of_toNat_eq
    have := x.isLt
    simp [Nat.shiftRight_eq_div_pow]
    omega
  simp only [crcShift, hodd, hhalf, decide_eq_true_eq, POLY]

theorem crcShifts_eq_iterate (k : Nat) (x : Half) : crcShifts k x = crcShift^[k] x := by
  induction k generalizing x with
  | zero => rfl
  | succ k ih => exact ih (crcShift x)

theorem crcShifts_add (j k : Nat) (x : Half) : crcShifts (j + k) x = crcShifts j (crcShifts k x) := by
  simp only [crcShifts_eq_iterate, Function.iterate_add_apply]

/-- The bit shifted out is the top bit of the result, because the polynomial has it (40_crc.md R84). -/
theorem crcShift_getLsbD_top (x : Half) : (crcShift x).getLsbD 15 = x.getLsbD 0 := by
  cases h : x.getLsbD 0
  · rw [crcShift, h]; simp
  · rw [crcShift, h]; simp [POLY]

theorem crcShift_injective : Function.Injective crcShift := by
  intro x y h
  have hlow : x.getLsbD 0 = y.getLsbD 0 := by rw [← crcShift_getLsbD_top, h, crcShift_getLsbD_top]
  have hshift : x >>> 1 = y >>> 1 := by
    rw [crcShift, crcShift, hlow] at h
    split at h
    · exact (BitVec.xor_left_inj _).1 h
    · exact h
  refine BitVec.eq_of_getLsbD_eq fun i _ => ?_
  cases i with
  | zero => exact hlow
  | succ i => simpa [Nat.add_comm] using congrArg (·.getLsbD i) hshift

theorem crcShifts_injective (k : Nat) : Function.Injective (crcShifts k) := by
  rw [funext (crcShifts_eq_iterate k)]
  exact crcShift_injective.iterate k

/-- With a zero low byte the polynomial is not met. -/
theorem crcShifts_eight_shiftLeft (x : Half) : crcShifts 8 (x <<< 8) = x <<< 8 >>> 8 :=
  crcShifts_of_low_zero 8 _ fun i hi => by simp [hi]

/-- The high byte only moves down; the low byte alone meets the polynomial (40_crc.md R82(e)). -/
theorem crcShifts_eight (x : Half) : crcShifts 8 x = x >>> 8 ^^^ crcShifts 8 (x &&& 0xFF#16) := by
  have hsplit : x = (x >>> 8 <<< 8) ^^^ (x &&& 0xFF#16) := by
    ext i hi
    interval_cases i <;> simp
  have hhigh : x >>> 8 <<< 8 >>> 8 = x >>> 8 := by
    ext i hi
    simpa using BitVec.lt_of_getLsbD
  calc crcShifts 8 x
      = crcShifts 8 ((x >>> 8 <<< 8) ^^^ (x &&& 0xFF#16)) := congrArg _ hsplit
    _ = x >>> 8 ^^^ crcShifts 8 (x &&& 0xFF#16) := by rw [crcShifts_xor, crcShifts_eight_shiftLeft, hhigh]

/-! ### The byte step -/

/-- Settles O30: the byte step iterates the loop, and the loop's body is the shift of the number. -/
theorem crcByteIsBitSerial : Obligations.CrcByteIsBitSerial := by
  intro c b
  rw [crcByte, crcShifts_eq_iterate, funext crcShift_eq_half, BitVec.ofNat_toNat]

/-- Linearity in both arguments (40_crc.md R82(d)). -/
theorem crcByte_xor (c₁ c₂ : Half) (b₁ b₂ : Byte) :
    crcByte (c₁ ^^^ c₂) (b₁ ^^^ b₂) = crcByte c₁ b₁ ^^^ crcByte c₂ b₂ := by
  have hargs : (c₁ ^^^ c₂) ^^^ (b₁ ^^^ b₂).zeroExtend 16 =
      (c₁ ^^^ b₁.zeroExtend 16) ^^^ (c₂ ^^^ b₂.zeroExtend 16) := by
    rw [BitVec.zeroExtend, BitVec.setWidth_xor]
    ac_rfl
  rw [crcByte, hargs, crcShifts_xor]; rfl

/-- Only the exclusive or of accumulator and byte matters (40_crc.md R82(e)). -/
theorem crcByte_eq_crcByte_zero (c : Half) (b : Byte) : crcByte c b = crcByte (c ^^^ b.zeroExtend 16) 0#8 := by
  simp [crcByte]

theorem crcByte_injective (b : Byte) : Function.Injective fun c => crcByte c b := fun _ _ h =>
  (BitVec.xor_left_inj _).1 (crcShifts_injective 8 h)

theorem xor_byte_shiftRight_eight (c : Half) (b : Byte) : (c ^^^ b.zeroExtend 16) >>> 8 = c >>> 8 := by
  have hbyte : b.zeroExtend 16 >>> 8 = 0#16 := by ext i hi; simp
  rw [BitVec.ushiftRight_xor_distrib, hbyte, BitVec.xor_zero]

/-- The byte step by the entry of the low byte (40_crc.md R82(e)). -/
theorem crcByte_eq_entry (c : Half) (b : Byte) :
    crcByte c b = c >>> 8 ^^^ crcByte ((c ^^^ b.zeroExtend 16) &&& 0xFF#16) 0#8 := by
  rw [crcByte, crcShifts_eight, xor_byte_shiftRight_eight]
  simp [crcByte]

theorem zeroExtend_lo8 (x : Half) : (lo8 x).zeroExtend 16 = x &&& 0xFF#16 := by
  ext i hi
  interval_cases i <;> simp [lo8]

theorem crcByteByTable_eq (c : Half) (b : Byte) : crcByteByTable c b = crcByte c b := by
  rw [crcByteByTable, crcTable, zeroExtend_lo8, ← crcByte_eq_entry]

/-! ### Byte strings -/

/-- What is added to the seed runs through as if the data were zero bytes (40_crc.md R82(d)). -/
theorem crc16_xor_seed (d : Bytes) (x y : Half) :
    crc16 d (x ^^^ y) = crc16 d x ^^^ crc16 (List.replicate d.length 0#8) y := by
  induction d generalizing x y with
  | nil => rfl
  | cons b d ih =>
    have hstep : crcByte (x ^^^ y) b = crcByte x b ^^^ crcByte y 0#8 := by rw [← crcByte_xor, BitVec.xor_zero]
    rw [crc16_cons, hstep, ih]; rfl

/-- Settles O31: each law is a lemma above; the sixteen entries are computed. -/
theorem crcLaws : Obligations.CrcLaws := by
  refine ⟨crc16_nil, crc16_append, fun _ _ => rfl, crcByte_xor, fun d s => ?_, fun c b => ?_, fun c b => ?_,
    crcByteByTable_eq, by decide +kernel⟩
  · rw [← crc16_xor_seed, BitVec.zero_xor]
  · rw [BitVec.ofNat_toNat, ← crcByte_eq_crcByte_zero]
  · rw [BitVec.ofNat_toNat, ← crcByte_eq_entry]

theorem fromLe16_getElem (lo hi : Byte) {i : Nat} (h : i < 16) :
    (fromLe16 lo hi)[i] = if i < 8 then lo.getLsbD i else hi.getLsbD (i - 8) :=
  (BitVec.getLsbD_eq_getElem h).symm.trans BitVec.getLsbD_append

/-- Two byte steps are sixteen iterations on the accumulator with both bytes added, the first byte low. -/
theorem crc16_two_bytes (c : Half) (lo hi : Byte) : crc16 [lo, hi] c = crcShifts 16 (c ^^^ fromLe16 lo hi) := by
  have hsplit : c ^^^ fromLe16 lo hi = (c ^^^ lo.zeroExtend 16) ^^^ hi.zeroExtend 16 <<< 8 := by
    ext i hlt
    interval_cases i <;> simp [fromLe16_getElem]
  have hhigh : crcShifts 8 (hi.zeroExtend 16 <<< 8) = hi.zeroExtend 16 := by
    rw [crcShifts_eight_shiftLeft]
    ext i hlt
    interval_cases i <;> simp
  rw [hsplit, crcShifts_add 8 8, crcShifts_xor 8 _ (hi.zeroExtend 16 <<< 8), hhigh]; rfl

/-- Two bytes are determined by the accumulator before and after them (40_crc.md R84(b)). -/
theorem crc16_two_bytes_inj {c : Half} {lo hi lo' hi' : Byte} (h : crc16 [lo, hi] c = crc16 [lo', hi'] c) :
    lo = lo' ∧ hi = hi' := by
  rw [crc16_two_bytes, crc16_two_bytes] at h
  have hbytes : fromLe16 lo hi = fromLe16 lo' hi' := (BitVec.xor_right_inj _).1 (crcShifts_injective 16 h)
  simpa [le16_fromLe16] using congrArg le16 hbytes

/-! ### The residue -/

/-- The bytes to append, as numbers (40_crc.md R83). -/
theorem fcsOf_eq (c : Half) : fcsOf c = [lowByte (c ^^^ 0xFFFF#16), highByte (c ^^^ 0xFFFF#16)] := by
  rw [fcsOf, le16_eq_lowByte_highByte, ← BitVec.xor_allOnes]; rfl

theorem crc16_complement_bytes (c : Half) :
    crc16 [lowByte (c ^^^ 0xFFFF#16), highByte (c ^^^ 0xFFFF#16)] c = 0xF0B8#16 :=
  fcsOf_eq c ▸ crc16_fcsOf c

/-- Settles O32: the checksum bytes leave the residue, and no other two bytes do, by injectivity of the inner loop. -/
theorem residueLaw : Obligations.ResidueLaw := by
  refine ⟨fun m s c hc => ?_, fun b => Finite.injective_iff_bijective.1 (crcByte_injective b),
    fun c t0 t1 => ⟨fun h => crc16_two_bytes_inj (h.trans (crc16_complement_bytes c).symm), ?_⟩⟩
  · rw [crc16_append, ← hc, crc16_complement_bytes]
  · rintro ⟨rfl, rfl⟩
    exact crc16_complement_bytes c

end Sys2Proof.Machine
end

section
/-! The commands of the CRC engine (40_crc.md R86 to R91): each decodes from its own encoding and completes with a
result of no, one or two bytes. -/

namespace Sys2Proof.Machine

/-! ### Completing with a result -/

theorem complete_one_byte (b : Byte) (s : State) :
    complete [b] s = { s with err := 0#8, einfo := 0#16, outbox := s.outbox ++ [[0#8, 1#8, 0#8, b]] } := by
  rw [← responseMessage_one_byte]; rfl

theorem complete_two_bytes (a b : Byte) (s : State) :
    complete [a, b] s = { s with err := 0#8, einfo := 0#16, outbox := s.outbox ++ [[0#8, 2#8, 0#8, a, b]] } := by
  rw [← responseMessage_two_bytes]; rfl

/-! ### The commands that write the accumulator -/

/-- Settles O7: the operand is read back from its two bytes. -/
theorem crcSeedLoads : Obligations.CrcSeedLoads := by
  refine ⟨fun v => ?_, fun _ _ => rfl⟩
  rw [← le16_eq_lowByte_highByte]
  exact decodeOfEncode (.crcSeed v) rfl rfl

/-- Settles O8: the byte is the message's only operand. -/
theorem crcUpdStepsOneByte : Obligations.CrcUpdStepsOneByte :=
  ⟨fun b => decodeOfEncode (.crcUpd b) rfl rfl, fun _ _ => rfl⟩

theorem exec_crcBlk (d : Bytes) (s : State) : exec (.crcBlk d) s = .next (complete [] (setCrc (crc16 d s.crc) s)) := rfl

/-- Settles O9: the length field reads back up to 65535, and `crc16` of a concatenation chains. -/
theorem crcBlkFoldsData : Obligations.CrcBlkFoldsData := by
  refine ⟨fun d hd => ?_, fun _ _ => rfl, fun _ => rfl, fun a b s t u v ht hu hv => ?_, fun _ _ => rfl⟩
  · have hdecode := decodeOfEncode (.crcBlk d) (decide_eq_true hd) rfl
    rwa [encode, operandsOf, Operands.bytes, le16_ofNat hd] at hdecode
  · rw [exec_crcBlk] at ht hu hv
    cases ht; cases hu; cases hv
    exact (crc16_append a b s.crc).symm

/-! ### The commands that read it -/

/-- Settles O10: the result is the accumulator's two bytes. -/
theorem crcReadReturnsRaw : Obligations.CrcReadReturnsRaw := by
  refine ⟨decodeOfEncode .crcRead rfl rfl, fun s => ?_⟩
  rw [← complete_two_bytes, ← le16_eq_lowByte_highByte]; rfl

/-- Settles O11: the result is the two checksum bytes of the accumulator, and these leave the residue in it. -/
theorem crcFcsReturnsComplement : Obligations.CrcFcsReturnsComplement := by
  refine ⟨decodeOfEncode .crcFcs rfl rfl, fun s => ⟨?_, fun t u ht hu => ?_⟩⟩
  · rw [← complete_two_bytes, ← fcsOf_eq]; rfl
  · cases ht; cases hu
    exact crc16_complement_bytes s.crc

theorem exec_crcChk (s : State) :
    exec .crcChk s = .next (complete [if s.crc = RESIDUE then 0x01#8 else 0x00#8] s) := rfl

/-- Settles O12: the result is one byte, by the comparison. -/
theorem crcChkComparesResidue : Obligations.CrcChkComparesResidue := by
  refine ⟨decodeOfEncode .crcChk rfl rfl, fun s => ⟨fun h => ?_, fun h => ?_⟩⟩
  · rw [exec_crcChk, if_pos (show s.crc = RESIDUE from h), complete_one_byte]
  · rw [exec_crcChk, if_neg (show s.crc ≠ RESIDUE from h), complete_one_byte]

end Sys2Proof.Machine
end

section
/-! The checksum of a frame as a test (41_frame_codec.md R104, R107): it is passed exactly by the checksum's own two
bytes, and a string changed within two adjacent bytes no longer passes. -/

namespace Sys2Proof.Machine

/-! ### Validation -/

/-- The residue test covers the whole string, wherever it is cut (41_frame_codec.md R104). -/
theorem validate_eq (h b : Bytes) : validate h b = crc16 (h ++ b) SEED0 := (crc16_append h b SEED0).symm

theorem validate_take_drop (n : Nat) (f : Bytes) : validate (f.take n) (f.drop n) = crc16 f SEED0 := by
  rw [validate_eq, List.take_append_drop]

/-- Two bytes leave the residue exactly when they are the accumulator's checksum bytes (40_crc.md R84(b)). -/
theorem crc16_eq_residue_iff {e : Bytes} (he : e.length = 2) (c : Half) : crc16 e c = RESIDUE ↔ e = fcsOf c := by
  obtain ⟨t0, t1, rfl⟩ := List.length_eq_two.1 he
  obtain ⟨-, -, hunique⟩ := residueLaw
  rw [fcsOf_eq]
  exact (hunique c t0 t1).trans (by simp)

/-- Settles O33: the accumulator before the last two bytes is that of the rest, and they alone give the residue. -/
theorem frameCheckIffChecksum : Obligations.FrameCheckIffChecksum := by
  intro h b _ hb
  have hlast : (b.drop (b.length - 2)).length = 2 := by rw [List.length_drop]; omega
  have hsplit : validate h b = crc16 (b.drop (b.length - 2)) (crc16 (h ++ b.take (b.length - 2)) SEED0) := by
    rw [← crc16_append, List.append_assoc, List.take_append_drop, validate_eq]
  rw [hsplit]
  exact crc16_eq_residue_iff hlast _

/-! ### Corruption -/

theorem crc16_injective (d : Bytes) : Function.Injective (crc16 d) := by
  induction d with
  | nil => exact Function.injective_id
  | cons b d ih => exact ih.comp (crcByte_injective b)

/-- Strings that differ in one segment have the same CRC only if the segments take the accumulator to one value. -/
theorem crc16_segment_inj {u w w' v : Bytes} {c : Half} (h : crc16 (u ++ (w ++ v)) c = crc16 (u ++ (w' ++ v)) c) :
    crc16 w (crc16 u c) = crc16 w' (crc16 u c) := by
  simp only [crc16_append] at h
  exact crc16_injective v h

theorem crcByte_injective_byte (c : Half) : Function.Injective (crcByte c) := by
  intro x x' h
  have hpair : crc16 [x, 0#8] c = crc16 [x', 0#8] c := congrArg (crcByte · 0#8) h
  exact (crc16_two_bytes_inj hpair).1

/-- Settles O34: from one accumulator one byte, and two bytes, are determined by what they lead to. -/
theorem adjacentCorruptionDetected : Obligations.AdjacentCorruptionDetected := by
  refine ⟨fun u v x x' hgood hne hbad => ?_, fun u v x y x' y' hgood hne hbad => ?_⟩
  · have hbyte := crc16_segment_inj (w := [x']) (w' := [x]) (hbad.trans hgood.symm)
    exact hne (crcByte_injective_byte _ hbyte)
  · have hbytes := crc16_segment_inj (w := [x', y']) (w' := [x, y]) (hbad.trans hgood.symm)
    obtain ⟨hx, hy⟩ := crc16_two_bytes_inj hbytes
    exact hne.elim (· hx) (· hy)

end Sys2Proof.Machine
end

section
/-! The frame codec's commands (41_frame_codec.md R100 to R106): what each answers, and that a frame the encoder builds
is taken apart again. -/

namespace Sys2Proof.Machine

/-! ### Completing and failing, as numbers -/

/-- Completing with `n` bytes: the length field is `n`, low byte first (30_encoding.md R65). -/
theorem complete_of_length {d : Bytes} {n : Nat} (hn : d.length = n) (h : n ≤ 65535) (s : State) :
    complete d s = { s with
      err := 0#8, einfo := 0#16
      outbox := s.outbox ++ [0#8 :: BitVec.ofNat 8 (n % 256) :: BitVec.ofNat 8 (n / 256) :: d] } := by
  simp only [complete, respond, responseMessage, hn, le16_ofNat h]; rfl

/-- A result shorter than 256 bytes has its length in one byte. -/
theorem complete_of_short {d : Bytes} {n : Nat} (hn : d.length = n) (h : n < 256) (s : State) :
    complete d s = { s with
      err := 0#8, einfo := 0#16, outbox := s.outbox ++ [0#8 :: BitVec.ofNat 8 n :: 0#8 :: d] } := by
  rw [complete_of_length hn (by omega), Nat.mod_eq_of_lt h, Nat.div_eq_of_lt h]

theorem raise_frameTooLong (s : State) : raise .frameTooLong s = { s with
    err := 2#8, einfo := 0#16, phase := .idle, outbox := s.outbox ++ [[2#8, 0#8, 0#8]] } := rfl

theorem raise_malformedResponse (s : State) : raise .malformedResponse s = { s with
    err := 4#8, einfo := 0#16, phase := .idle, outbox := s.outbox ++ [[4#8, 0#8, 0#8]] } := rfl

/-- `EINFO` holds the received checksum, its first byte low (10_state.md R14). -/
theorem raise_crcError (x y : Byte) (s : State) : raise (.crcError x y) s = { s with
    err := 3#8, einfo := BitVec.ofNat 16 (x.toNat + 256 * y.toNat), phase := .idle
    outbox := s.outbox ++ [[3#8, 2#8, 0#8, x, y]] } := by
  rw [← fromLe16_eq_ofNat, ← responseMessage_two_bytes]; rfl

/-! ### The header -/

/-- Settles O14: the result is the PCB, the declared length, and the two bytes of the number still to be read. -/
theorem frmHdrDecodesHeader : Obligations.FrmHdrDecodesHeader := by
  refine ⟨fun b0 b1 b2 => decodeOfEncode (.frmHdr b0 b1 b2) rfl rfl, fun b0 b1 b2 s => ?_⟩
  have hlen : BitVec.ofNat 8 b2.toNat = b2 := by rw [BitVec.ofNat_toNat, BitVec.setWidth_eq]
  have hrest : le16 (BitVec.ofNat 16 (b2.toNat + 2)) =
      [BitVec.ofNat 8 ((b2.toNat + 2) % 256), BitVec.ofNat 8 ((b2.toNat + 2) / 256)] := le16_ofNat (by omega)
  calc exec (.frmHdr b0 b1 b2) s
      = .next (complete (b1 :: BitVec.ofNat 8 b2.toNat :: le16 (BitVec.ofNat 16 (b2.toNat + 2))) s) := rfl
    _ = _ := by rw [hlen, hrest, complete_of_short (n := 4) rfl (by decide)]

/-! ### The encoder -/

/-- Settles O13: by the length of the data; the frame is five bytes longer, and its last two are the checksum. -/
theorem frmEncBuildsFrame : Obligations.FrmEncBuildsFrame := by
  refine ⟨fun p d hd => ?_, fun p d s => ⟨fun h => ?_, ?_⟩⟩
  · have hdecode := decodeOfEncode (.frmEnc p d) (decide_eq_true hd) rfl
    rwa [encode, operandsOf, Operands.bytes, le16_ofNat hd] at hdecode
  · rw [← raise_frameTooLong]
    exact execFrmEnc_tooLong h
  · rintro h hd c f rfl rfl rfl
    have hexec := execFrmEnc_fits (pcb := p) (s := s) h
    rw [complete_of_length (n := d.length + 5) (by simp) (by omega), fcs_eq] at hexec
    exact hexec

theorem headerLen_encoded (nad p : Byte) {d : Bytes} (h : d.length ≤ 253) :
    headerLen (frameHead nad p d ++ fcs (frameHead nad p d)) = d.length := by
  obtain ⟨-, -, -, hlen, -⟩ := completeFrame_encoded (nad := nad) (pcb := p) h
  rw [List.length_append, frameHead_length, fcs_length] at hlen
  exact Nat.add_right_cancel hlen

/-- The payload stands behind the header (30_encoding.md R50). -/
theorem payload_encoded (nad p : Byte) (d : Bytes) :
    ((frameHead nad p d ++ fcs (frameHead nad p d)).drop 3).take d.length = d :=
  List.take_left

/-- Settles O35: field by field of the frame that fits, whose whole CRC is the residue. -/
theorem encodeHeaderRoundTrip : Obligations.EncodeHeaderRoundTrip := by
  refine fun nad p d h => ⟨_, encodeFrame_fits h, rfl, headerLen_encoded nad p h, ?_, payload_encoded nad p d, ?_⟩
  · rw [List.length_append, frameHead_length, fcs_length, Nat.add_comm d.length]
  · rw [validate_take_drop]
    exact crc16_append_fcs _

/-! ### The validator -/

theorem execFrmVal_malformed {f : Bytes} {s : State} (h : f.length < 5 ∨ f.length ≠ headerLen f + 5) :
    execFrmVal f s = .next (raise .malformedResponse s) := by
  by_cases hshort : f.length < 5
  · simp [execFrmVal, hshort]
  · simp [execFrmVal, hshort, h.resolve_left hshort]

theorem execFrmVal_bad {f : Bytes} {s : State} (hlen : f.length = headerLen f + 5) (h : crc16 f SEED0 ≠ RESIDUE) :
    execFrmVal f s = .next (raise (.crcError (f.getD (f.length - 2) 0#8) (f.getD (f.length - 1) 0#8))
      (setCrc (crc16 f SEED0) s)) := by
  have hshort : ¬ f.length < 5 := by omega
  rw [execFrmVal, if_neg hshort, if_neg (not_not_intro hlen), validate_take_drop, if_pos h]

theorem execFrmVal_good {f : Bytes} {s : State} (hlen : f.length = headerLen f + 5) (h : crc16 f SEED0 = RESIDUE) :
    execFrmVal f s = .next (complete ((f.drop 3).take (headerLen f)) (setCrc RESIDUE s)) := by
  have hshort : ¬ f.length < 5 := by omega
  rw [execFrmVal, if_neg hshort, if_neg (not_not_intro hlen), validate_take_drop, if_neg (not_not_intro h), h]

/-- Settles O15: the length tests, then the residue of the whole string. -/
theorem frmValValidatesFrame : Obligations.FrmValValidatesFrame := by
  refine ⟨fun d hd => ?_, ?_⟩
  · have hdecode := decodeOfEncode (.frmVal d) (decide_eq_true hd) rfl
    rwa [encode, operandsOf, Operands.bytes, le16_ofNat hd] at hdecode
  rintro f s dl (rfl : dl = headerLen f)
  refine ⟨fun h => ?_, fun _ hlen hbad => ?_, fun _ hlen hgood => ?_⟩
  · rw [← raise_malformedResponse]
    exact execFrmVal_malformed h
  · refine (execFrmVal_bad hlen hbad).trans ?_
    rw [raise_crcError]; rfl
  · have hpayload : ((f.drop 3).take (headerLen f)).length = headerLen f := by
      rw [List.length_take, List.length_drop]; omega
    refine (execFrmVal_good hlen hgood).trans ?_
    rw [complete_of_short hpayload (BitVec.isLt _)]; rfl

/-- Settles O36: the frame has the length it declares and the residue, so the validator returns its payload. -/
theorem encodedFrameValidates : Obligations.EncodedFrameValidates := by
  intro p d s s' h
  have hheader := headerLen_encoded s.cfg.nad p h
  have hval := execFrmVal_good (s := s') (f := frameHead s.cfg.nad p d ++ fcs (frameHead s.cfg.nad p d))
    (by rw [hheader]; simp) (crc16_append_fcs _)
  rw [hheader, payload_encoded, complete_of_short rfl (by omega)] at hval
  exact ⟨_, _, _, _, execFrmEnc_fits h, rfl, hval⟩

end Sys2Proof.Machine
end

section
/-! The sequence alternator (42_sequence.md R120 to R124): its commands answer with the bit as a value or as a PCB, and
only the events of R120 write it. -/

namespace Sys2Proof.Machine

/-! ### The bit as a value -/

theorem seq_xor_one : ∀ b : BitVec 1, b ^^^ 1#1 = if b = 0#1 then 1#1 else 0#1 := by decide

theorem zeroExtend_seq : ∀ b : BitVec 1, b.zeroExtend 8 = if b = 0#1 then 0#8 else 1#8 := by decide

/-- The information-block PCB of the current bit with chaining (30_encoding.md R54). -/
theorem iblockPcb_one : ∀ b : BitVec 1, iblockPcb b 1#1 = if b = 0#1 then 0x20#8 else 0x60#8 := by decide

/-! ### The commands -/

/-- Settles O16: the force event, without a result. -/
theorem seqRstForcesZero : Obligations.SeqRstForcesZero := ⟨decodeOfEncode .seqRst rfl rfl, fun _ => rfl⟩

theorem exec_seqTgl (s : State) : exec .seqTgl s = .next (complete [] (seqFlip s)) := rfl

/-- Settles O17: the flip event, which is its own inverse. -/
theorem seqTglFlips : Obligations.SeqTglFlips := by
  refine ⟨decodeOfEncode .seqTgl rfl rfl, fun s => ?_, fun s t u ht hu => ?_⟩
  · rw [← seq_xor_one]; rfl
  · rw [exec_seqTgl] at ht hu
    cases ht; cases hu
    change s.seq ^^^ 1#1 ^^^ 1#1 = s.seq
    rw [BitVec.xor_assoc, BitVec.xor_self, BitVec.xor_zero]

/-- Settles O18: the result is the bit as one byte. -/
theorem seqRdReturnsBit : Obligations.SeqRdReturnsBit := by
  refine ⟨decodeOfEncode .seqRd rfl rfl, fun s => ?_⟩
  rw [← complete_one_byte, ← zeroExtend_seq]; rfl

/-- Bits 7..1 of the operand are not all zero (30_encoding.md R64(e)). -/
theorem exec_seqPcb_reserved {m : Byte} (h : 1#8 < m) (s : State) :
    exec (.seqPcb m) s = .next (raise .illegalCommand s) := by
  have hbits : m >>> 1 ≠ 0#8 := by bv_omega
  exact if_neg hbits

/-- Settles O19: the PCB of the bit for each flag, and the reserved operands. -/
theorem seqPcbBuildsPcb : Obligations.SeqPcbBuildsPcb := by
  refine ⟨decodeOfEncode (.seqPcb 0x00#8) rfl rfl, decodeOfEncode (.seqPcb 0x01#8) rfl rfl, fun s => ⟨?_, ?_, ?_⟩⟩
  · rw [← complete_one_byte, ← iblockPcb_zero]; rfl
  · rw [← complete_one_byte, ← iblockPcb_one]; rfl
  · exact fun m h => exec_seqPcb_reserved h s

/-! ### What writes the bit -/

/-- Command `i` writes the bit from `s` to `t`: `SEQ.TGL` flips it, the others force it (42_sequence.md R120). -/
def writesSeq (i : Instr) (s t : State) : Prop :=
  (i = .seqTgl ∧ t.seq = s.seq ^^^ 1#1) ∨ (t.seq = 0#1 ∧ (i = .seqRst ∨ i = .sreset ∨ ∃ d, i = .xchg 0xCF#8 d))

/-- Too long or not, the start of an exchange does step 1 and no more to the bit (43_transaction.md R133). -/
theorem exec_xchg_seq {p : Byte} {d : Bytes} {s t : State} (he : exec (.xchg p d) s = .next t) :
    t.seq = if p = PCB_RESET then 0#1 else s.seq := by
  obtain ⟨-, hr⟩ | ⟨-, hr⟩ := execXchg_cases p d s <;> cases hr.symm.trans he <;> simp

/-- The PCB rows, which are no commands, would flip and force the bit as well. -/
theorem exec_seq {i : Instr} {s t : State} (hc : i.isCommand = true) (he : exec i s = .next t) :
    t.seq = s.seq ∨ writesSeq i s t := by
  cases i with
  | pcbIblock | pcbReset | pcbChain => cases hc
  | seqTgl => cases he; exact .inr (.inl ⟨rfl, rfl⟩)
  | seqRst => cases he; exact .inr (.inr ⟨rfl, .inl rfl⟩)
  | sreset => cases he; exact .inr (.inr ⟨rfl, .inr (.inl rfl)⟩)
  | xchg p d =>
    have hseq := exec_xchg_seq he
    split_ifs at hseq with hp
    · subst hp; exact .inr (.inr ⟨hseq, .inr (.inr ⟨d, rfl⟩)⟩)
    · exact .inl hseq
  | rdreg r => obtain ⟨v, -, hr⟩ | ⟨-, hr⟩ := execRdreg_cases r s <;> cases hr.symm.trans he <;> simp
  | frmEnc p d => obtain ⟨-, hr⟩ | ⟨-, hr⟩ := execFrmEnc_cases p d s <;> cases hr.symm.trans he <;> simp
  | frmVal d => obtain hr | ⟨x, y, hr⟩ | hr := execFrmVal_cases d s <;> cases hr.symm.trans he <;> simp
  | seqPcb m => obtain hr | hr := execSeqPcb_cases m s <;> cases hr.symm.trans he <;> simp
  | _ => cases he; exact .inl rfl

@[simp] theorem headerRead_seq (v : Bytes) (s : State) : (headerRead v s).seq = s.seq := by
  obtain hs | ⟨-, hs⟩ := headerRead_cases v s <;> simp [hs]

/-- The last row of the exchange leaves the bit, or it ends the exchange with a validation. -/
theorem rdbodyStep_seq (s : State) :
    (rdbodyStep s).seq = s.seq ∨ ((rdbodyStep s).phase = .idle ∧ seqSettled s (rdbodyStep s)) := by
  unfold rdbodyStep
  obtain ⟨v, -, hs⟩ | ⟨-, hs⟩ | ⟨e, hs⟩ := portStep_answers (.read (headerLen s.rxhdr + FCS_LEN)) bodyRead s
  · obtain hb | ⟨-, hb⟩ := bodyRead_cases v (callPort (.read (headerLen s.rxhdr + FCS_LEN)) s).2 <;> rw [hs, hb]
    · left; simp
    · obtain ⟨hidle, -⟩ := settleExchange_ends (holdBody v (callPort (.read (headerLen s.rxhdr + FCS_LEN)) s).2)
      exact .inr ⟨hidle, seqSettled_settleExchange (by simp [sameRequest])⟩
  · left; simp [hs]
  · left; simp [hs]

/-- The other rows leave the bit. -/
theorem exchangeStep_seq (s : State) :
    (exchangeStep s).seq = s.seq ∨
    (s.phase = .rdbody ∧ (exchangeStep s).phase = .idle ∧ seqSettled s (exchangeStep s)) := by
  unfold exchangeStep
  split
  · exact .inl rfl
  · exact .inl (portStep_preserves (·.seq) s (by simp) (by simp) (by simp) (by simp))
  · exact .inl (portStep_preserves (·.seq) s (by simp) (by simp) (by simp) (by simp))
  · next hp => exact (rdbodyStep_seq s).imp_right fun h => ⟨hp, h⟩

/-- An exchange that ends with the bit changed ended with `OK`, and its request was an information block
(43_transaction.md R141). -/
theorem seqSettled_changed {s t : State} (h : seqSettled s t) (hne : t.seq ≠ s.seq) :
    t.err = 0#8 ∧ s.cfg.iblock.has (requestPcb s) = true ∧ t.seq = s.seq ^^^ 1#1 := by
  obtain ⟨herr, hseq⟩ | ⟨-, hseq⟩ := h
  · cases hb : s.cfg.iblock.has (requestPcb s) <;> rw [hb] at hseq
    · exact absurd hseq hne
    · exact ⟨herr, rfl, hseq⟩
  · exact absurd hseq hne

/-- Settles O37: of the commands only the writers of the bit change it, of the exchange's rows only the validation that
ends it. -/
theorem sequenceBitWriters : Obligations.SequenceBitWriters := by
  intro s t hs hne
  obtain ⟨-, -, rfl⟩ | ⟨hp, m, rest, i, hm, hd, he⟩ | ⟨-, m, rest, e, -, -, rfl⟩ | ⟨-, rfl⟩ := step_cases hs
  · exact absurd rfl hne
  · obtain ⟨-, -, hc⟩ := encodeOfDecode m i hd
    exact .inl ⟨hp, m, rest, i, hm, hd, (exec_seq (s := dropCommand rest s) hc he).resolve_left hne⟩
  · exact absurd rfl hne
  · obtain hseq | ⟨hp, hidle, hsettled⟩ := exchangeStep_seq s
    · exact absurd hseq hne
    · obtain ⟨herr, hblock, hflip⟩ := seqSettled_changed hsettled hne
      exact .inr ⟨hp, hidle, herr, hblock, hflip⟩

end Sys2Proof.Machine
end

section
/-! The rows of the small-step exchange (43_transaction.md R143): the start of `XCHG`, then for each phase the state
that an answer of the port leads to, written out field by field. -/

namespace Sys2Proof.Machine

/-! ### The shared operations as updates of named fields -/

theorem seqOnRequest_eq (p : Byte) (s : State) :
    seqOnRequest p s = { s with seq := if p = PCB_RESET then 0#1 else s.seq } := by
  unfold seqOnRequest
  split <;> rfl

theorem seqOnSuccess_eq (p : Byte) (s : State) :
    seqOnSuccess p s = { s with seq := bif s.cfg.iblock.has p then s.seq ^^^ 1#1 else s.seq } := by
  unfold seqOnSuccess
  cases s.cfg.iblock.has p <;> rfl

/-- A record needs both a sink and a chaining PCB (43_transaction.md R137, 60_exceptions.md R190). -/
theorem chainDiagnostic_eq (p : Byte) (s : State) :
    chainDiagnostic p s = { s with
      diag := s.diag ++ (bif s.cfg.sink && s.cfg.chain.has p then [.chainSeen p] else []) } := by
  unfold chainDiagnostic diagnose
  cases s.cfg.chain.has p <;> cases s.cfg.sink <;> simp

/-- The response carries the adapter's error, at most 65535 bytes long (60_exceptions.md R171). -/
theorem raise_transportError (e : TErr) (s : State) : raise (.transportError e) s = { s with
    err := 1#8, einfo := 0#16, phase := .idle
    outbox := s.outbox ++ [1#8 :: BitVec.ofNat 8 (e.report.length % 256)
      :: BitVec.ofNat 8 (e.report.length / 256) :: e.report] } := by
  have hmsg : responseMessage 1#8 e.report = 1#8 :: BitVec.ofNat 8 (e.report.length % 256)
      :: BitVec.ofNat 8 (e.report.length / 256) :: e.report := by
    rw [responseMessage, le16_ofNat e.short]; rfl
  rw [← hmsg]; rfl

/-- Taking an answer changes the queue of answers and the count of draws only. -/
theorem eq_of_takeAnswer {s t : State} {a : PortAnswer} (h : takeAnswer s = (a, t)) :
    t = { s with answers := t.answers, draws := t.draws } := by
  cases hs : s.answers with
  | nil => cases (takeAnswer_drawn hs).symm.trans h; rw [hs]
  | cons b rest => cases (takeAnswer_listed hs).symm.trans h; rfl

theorem callPort_eq_attempted {op : PortOp} {s t : State} {a : PortAnswer} (h : takeAnswer s = (a, t)) :
    callPort op s = (answerTo op a, attempted op (answerTo op a) t) := by
  rw [callPort_of_takeAnswer h]
  unfold diagnose attempted
  change (_, bif t.cfg.sink then _ else _) = _
  cases t.cfg.sink <;> cases op <;> rfl

/-! ### An attempt in a phase -/

section
variable {op : PortOp} {onOk : Bytes → State → State} {s t : State}

theorem portStep_attempted_ok {a : PortAnswer} {v : Bytes} (h : takeAnswer s = (a, t)) (ha : answerTo op a = .ok v) :
    portStep op onOk s = onOk v (attempted op (.ok v) t) :=
  portStep_ok (ha ▸ callPort_eq_attempted h)

theorem portStep_read_ok {n : Nat} {v : Bytes} (h : takeAnswer s = (.ok v, t)) :
    portStep (.read n) onOk s = onOk v (attempted (.read n) (.ok v) t) :=
  portStep_attempted_ok h (answerTo_read n _)

theorem callPort_attempted_err {e : TErr} (h : takeAnswer s = (.err e, t)) :
    callPort op s = (.err e, attempted op (.err e) t) := by
  rw [callPort_eq_attempted h, answerTo_err]

/-- An error with an attempt left is followed by one wait (43_transaction.md R132). -/
theorem portStep_attempted_again {e : TErr} (h : takeAnswer s = (.err e, t)) (hatt : s.att + 1 < s.cfg.maxAtt.n) :
    portStep op onOk s = { attempted op (.err e) t with waits := s.waits + 1 } := by
  have ht := eq_of_takeAnswer h
  have hleft : (attempted op (.err e) t).att < (attempted op (.err e) t).cfg.maxAtt.n := by rw [ht]; exact hatt
  rw [portStep_again (callPort_attempted_err h) hleft, ht]; rfl

/-- The last error is the one reported (60_exceptions.md R171). -/
theorem portStep_attempted_last {e : TErr} (h : takeAnswer s = (.err e, t)) (hatt : s.att + 1 = s.cfg.maxAtt.n) :
    portStep op onOk s = { attempted op (.err e) t with
      err := 1#8, einfo := 0#16, phase := .idle
      outbox := s.outbox ++ [1#8 :: BitVec.ofNat 8 (e.report.length % 256)
        :: BitVec.ofNat 8 (e.report.length / 256) :: e.report] } := by
  have ht := eq_of_takeAnswer h
  have hused : (attempted op (.err e) t).cfg.maxAtt.n ≤ (attempted op (.err e) t).att := by rw [ht]; exact hatt.ge
  rw [portStep_last (callPort_attempted_err h) hused, raise_transportError, ht]; rfl

end

/-! ### The end of a validation -/

theorem settleExchange_good_eq {s : State} (hlen : s.rxbuf.length = headerLen s.rxhdr + 2)
    (h : validate s.rxhdr s.rxbuf = RESIDUE) :
    settleExchange s = { s with
      crc := 0xF0B8#16, err := 0#8, einfo := 0#16, phase := .idle
      seq := bif s.cfg.iblock.has (requestPcb s) then s.seq ^^^ 1#1 else s.seq
      outbox := s.outbox ++
        [0#8 :: BitVec.ofNat 8 (headerLen s.rxhdr) :: 0#8 :: s.rxbuf.take (headerLen s.rxhdr)] } := by
  have hpayload : (s.rxbuf.take (headerLen s.rxhdr)).length = headerLen s.rxhdr := by rw [List.length_take]; omega
  rw [settleExchange_good h, complete_of_short hpayload (BitVec.isLt _), seqOnSuccess_eq]; rfl

theorem settleExchange_bad_eq {s : State} (h : validate s.rxhdr s.rxbuf ≠ RESIDUE) :
    settleExchange s = { s with
      crc := validate s.rxhdr s.rxbuf, err := 3#8, phase := .idle
      einfo := BitVec.ofNat 16 ((s.rxbuf.getD (headerLen s.rxhdr) 0#8).toNat
        + 256 * (s.rxbuf.getD (headerLen s.rxhdr + 1) 0#8).toNat)
      outbox := s.outbox ++ [[3#8, 2#8, 0#8, s.rxbuf.getD (headerLen s.rxhdr) 0#8,
        s.rxbuf.getD (headerLen s.rxhdr + 1) 0#8]] } := by
  rw [settleExchange_bad h, raise_crcError]; rfl

/-! ### The rows -/

/-- Settles O20: by the length of the data, after step 1. -/
theorem xchgStartsExchange : Obligations.XchgStartsExchange := by
  refine ⟨fun p d hd => ?_, fun p d s => ⟨fun h => ?_, ?_⟩⟩
  · have hdecode := decodeOfEncode (.xchg p d) (decide_eq_true hd) rfl
    rwa [encode, operandsOf, Operands.bytes, le16_ofNat hd] at hdecode
  · have hexec := execXchg_tooLong (pcb := p) (s := s) h
    rw [raise_frameTooLong, seqOnRequest_eq] at hexec
    exact hexec
  · rintro h hd c rfl rfl
    have hexec := execXchg_fits (pcb := p) (s := s) h
    rw [fcs_eq, seqOnRequest_eq] at hexec
    exact hexec

/-- Settles O21: an `ok` answer to the write carries no bytes; an error waits or is the last. -/
theorem exchangeWriteRows : Obligations.ExchangeWriteRows := by
  intro s t a hp h
  rw [step_of_write hp]
  refine ⟨?_, ?_, ?_⟩
  · rintro v rfl
    exact congrArg _ (portStep_attempted_ok h (answerTo_write_ok _ v))
  · rintro e rfl hatt
    exact congrArg _ (portStep_attempted_again h hatt)
  · rintro e rfl hatt
    exact congrArg _ (portStep_attempted_last h hatt)

/-- Settles O22: an `ok` answer is a header or not by its length. -/
theorem exchangeHeaderRows : Obligations.ExchangeHeaderRows := by
  intro s t a hp h
  rw [step_of_rdhdr hp]
  refine ⟨?_, ?_, ?_, ?_⟩
  · rintro v rfl hv
    refine congrArg _ ((portStep_read_ok h).trans ?_)
    rw [headerRead_read hv, chainDiagnostic_eq, eq_of_takeAnswer h]; rfl
  · rintro v rfl hv
    refine congrArg _ ((portStep_read_ok h).trans ?_)
    rw [headerRead_malformed hv, raise_malformedResponse, eq_of_takeAnswer h]; rfl
  · rintro e rfl hatt
    exact congrArg _ (portStep_attempted_again h hatt)
  · rintro e rfl hatt
    exact congrArg _ (portStep_attempted_last h hatt)

/-- Settles O23: an `ok` answer is a remainder or not by its length, and the remainder is accepted or not by the
residue. -/
theorem exchangeBodyRows : Obligations.ExchangeBodyRows := by
  rintro s t a dl hp h (rfl : dl = headerLen s.rxhdr)
  rw [step_of_rdbody hp]
  have ht := eq_of_takeAnswer h
  refine ⟨?_, ?_, ?_, ?_, ?_⟩
  · rintro v rfl hv hgood
    refine congrArg _ ((portStep_read_ok h).trans ?_)
    rw [bodyRead_read (by rw [ht]; exact hv), settleExchange_good_eq (by rw [ht]; exact hv) (by rw [ht]; exact hgood),
      ht]
    rfl
  · rintro v rfl hv hbad
    refine congrArg _ ((portStep_read_ok h).trans ?_)
    rw [bodyRead_read (by rw [ht]; exact hv), settleExchange_bad_eq (by rw [ht]; exact hbad), ht]
    rfl
  · rintro v rfl hv
    refine congrArg _ ((portStep_read_ok h).trans ?_)
    rw [bodyRead_malformed (by rw [ht]; exact hv), raise_malformedResponse, ht]; rfl
  · rintro e rfl hatt
    exact congrArg _ (portStep_attempted_again h hatt)
  · rintro e rfl hatt
    exact congrArg _ (portStep_attempted_last h hatt)

/-! ### The whole operation -/

/-- Settles O24: the machine reaches the whole operation's end from wherever `exec` leaves it. -/
theorem exchangeStepsReachWhole : Obligations.ExchangeStepsReachWhole := by
  intro p d s
  obtain ⟨t, ht⟩ := exec_answers_next (.xchg p d) s
  obtain ⟨n, hn, hrun⟩ := xchgWhole_reached ht
  exact ⟨t, n, ht, hn, hrun⟩

end Sys2Proof.Machine
end

section
/-! Runs against answers that the port lists: `retry` on failures before a success or until the budget is used up
(43_transaction.md R132), and the exchange whose three calls succeed at once (R135 to R141). -/

namespace Sys2Proof.Machine

/-! ### The retry loop -/

theorem callPort_listed {op : PortOp} {s : State} {a : PortAnswer} {rest : List PortAnswer}
    (h : s.answers = a :: rest) :
    callPort op s = (answerTo op a, attempted op (answerTo op a) { s with answers := rest }) :=
  callPort_eq_attempted (takeAnswer_listed h)

/-- An answer to a write loses its bytes only, so an error is an error. -/
theorem answerTo_eq_err {op : PortOp} {a : PortAnswer} {e : TErr} : answerTo op a = .err e ↔ a = .err e := by
  cases op with
  | write v => cases a <;> simp
  | read n => simp

/-- `s` after failed attempts `es` and then an attempt answered `a`, each failure followed by a wait, with `rest` still
to be answered and `records` in the sink. -/
def retried (op : PortOp) (es : List TErr) (a : PortAnswer) (rest : List PortAnswer) (records : List DiagRecord)
    (s : State) : State :=
  { s with
    att := s.att + (es.length + 1), answers := rest, waits := s.waits + es.length, diag := records
    events := s.events ++ es.map (fun e => eventOf s.cfg op (.err e)) ++ [eventOf s.cfg op a] }

theorem attempted_eq_retried (op : PortOp) (a : PortAnswer) (rest : List PortAnswer) (s : State) :
    attempted op a { s with answers := rest } =
      retried op [] a rest (attempted op a { s with answers := rest }).diag s := by
  simp [attempted, retried, eventOf]

/-- One failed attempt and its wait before the others. -/
theorem retried_waitDelay_attempted (op : PortOp) (e : TErr) (es : List TErr) (a : PortAnswer)
    (queue rest : List PortAnswer) (records : List DiagRecord) (s : State) :
    retried op es a rest records (waitDelay (attempted op (.err e) { s with answers := queue })) =
      retried op (e :: es) a rest records s := by
  simp [retried, attempted, waitDelay, eventOf, Nat.add_assoc, Nat.add_comm 1]

/-- The loop makes the listed failures its attempts up to the answer `a`, which is a success or takes the last attempt
of the budget. -/
theorem retryLoop_listed {op : PortOp} {es : List TErr} {a : PortAnswer} {rest : List PortAnswer} {k : Nat} {s : State}
    (hlist : s.answers = es.map PortAnswer.err ++ a :: rest) (hk : es.length ≤ k)
    (hlast : ∀ e, a = .err e → es.length = k) :
    ∃ records, retryLoop op k s = (answerTo op a, retried op es (answerTo op a) rest records s) := by
  induction es generalizing k s with
  | nil =>
    have hcall : callPort op s = _ := callPort_listed hlist
    rw [attempted_eq_retried] at hcall
    cases ha : answerTo op a with
    | ok v =>
      rw [ha] at hcall
      exact ⟨_, retryLoop_ok hcall⟩
    | err e =>
      obtain rfl : 0 = k := hlast e (answerTo_eq_err.1 ha)
      rw [ha] at hcall
      exact ⟨_, retryLoop_last hcall⟩
  | cons e es ih =>
    have hcall : callPort op s = _ := callPort_listed hlist
    rw [answerTo_err] at hcall
    obtain ⟨k, rfl⟩ : ∃ j, k = j + 1 := ⟨k - 1, by simp at hk; omega⟩
    obtain ⟨records, hloop⟩ := ih (k := k) (s := waitDelay (attempted op (.err e) { s with
      answers := es.map PortAnswer.err ++ a :: rest })) rfl (by simpa using hk) (by simpa using hlast)
    rw [retried_waitDelay_attempted] at hloop
    exact ⟨records, (retryLoop_again hcall).trans hloop⟩

/-- Settles O28: `retry` is the loop from `ATT = 0` with `MAXATT` attempts. -/
theorem retryCountsAttempts : Obligations.RetryCountsAttempts := by
  refine ⟨fun op s es v rest hlt hlist => ?_, fun op s es last rest hmax hlist => ?_⟩
  · obtain ⟨records, hloop⟩ := retryLoop_listed (op := op) (k := s.cfg.maxAtt.n - 1) (s := clearAtt s) hlist
      (by omega) nofun
    refine ⟨records, hloop.trans ?_⟩
    simp [retried, clearAtt]
  · obtain ⟨records, hloop⟩ := retryLoop_listed (op := op) (k := s.cfg.maxAtt.n - 1) (s := clearAtt s) hlist
      (by omega) (fun _ _ => by omega)
    refine ⟨records, hloop.trans ?_⟩
    simp [retried, clearAtt, hmax]

/-! ### Three calls -/

theorem runSteps_succ {n : Nat} {s t u : State} (h : runSteps n s = .next t) (hs : step t = .next u) :
    runSteps (n + 1) s = .next u :=
  runSteps_trans h (by simp [runSteps, hs])

section
/-! A run from `s₀` to `s` goes on by the `ok` row of the phase of `s`. Without a sink no record is added. -/
variable {n : Nat} {s₀ s : State} {v : Bytes} {rest : List PortAnswer}

theorem runSteps_write_ok (hrun : runSteps n s₀ = .next s) (hp : s.phase = .write)
    (hlist : s.answers = .ok v :: rest) :
    ∃ records, (s.cfg.sink = false → records = s.diag) ∧ runSteps (n + 1) s₀ = .next { s with
      phase := .rdhdr, att := 0, answers := rest, diag := records
      events := s.events ++ [eventOf s.cfg (.write s.txbuf) (.ok [])] } := by
  obtain ⟨hok, -⟩ := exchangeWriteRows s _ _ hp (takeAnswer_listed hlist)
  exact ⟨_, fun hsink => by simp [attempted, hsink], runSteps_succ hrun (hok v rfl)⟩

theorem runSteps_header_ok (hrun : runSteps n s₀ = .next s) (hp : s.phase = .rdhdr)
    (hlist : s.answers = .ok v :: rest) (hv : v.length = 3) :
    ∃ records, (s.cfg.sink = false → records = s.diag) ∧ runSteps (n + 1) s₀ = .next { s with
      phase := .rdbody, att := 0, rxhdr := v, answers := rest, diag := records
      events := s.events ++ [eventOf s.cfg (.read 3) (.ok v)] } := by
  obtain ⟨hok, -⟩ := exchangeHeaderRows s _ _ hp (takeAnswer_listed hlist)
  exact ⟨_, fun hsink => by simp [attempted, hsink], runSteps_succ hrun (hok v rfl hv)⟩

theorem runSteps_body_ok {dl : Nat} (hrun : runSteps n s₀ = .next s) (hp : s.phase = .rdbody)
    (hlist : s.answers = .ok v :: rest) (hdl : dl = (s.rxhdr.getD 2 0#8).toNat) (hv : v.length = dl + 2)
    (hgood : crc16 v (crc16 s.rxhdr 0xFFFF#16) = 0xF0B8#16) :
    ∃ records, (s.cfg.sink = false → records = s.diag) ∧ runSteps (n + 1) s₀ = .next { s with
      crc := 0xF0B8#16, err := 0#8, einfo := 0#16, phase := .idle, att := s.att + 1, rxbuf := v
      seq := bif s.cfg.iblock.has (s.txbuf.getD 1 0#8) then s.seq ^^^ 1#1 else s.seq
      answers := rest, diag := records
      events := s.events ++ [eventOf s.cfg (.read (dl + 2)) (.ok v)]
      outbox := s.outbox ++ [0#8 :: BitVec.ofNat 8 dl :: 0#8 :: v.take dl] } := by
  obtain ⟨hok, -⟩ := exchangeBodyRows s _ _ dl hp (takeAnswer_listed hlist) hdl
  exact ⟨_, fun hsink => by simp [attempted, hsink], runSteps_succ hrun (hok v rfl hv hgood)⟩

end

/-- Settles O27: the `ok` rows of the three phases in turn, from the state in which `exec` enters `WRITE`. -/
theorem exchangeSucceedsInThreeCalls : Obligations.ExchangeSucceedsInThreeCalls := by
  intro p d w h b rest s dl c hd f hfits hlist hh hdl hb hgood hhd hc hf
  obtain ⟨-, hexec⟩ := xchgStartsExchange
  obtain ⟨-, hstart⟩ := hexec p d s
  have hstart := hstart hfits hd c hhd hc
  have hpcb : f.getD 1 0#8 = p := by rw [hf, hhd]; rfl
  rw [← hf] at hstart
  obtain ⟨r₁, hr₁, hrun⟩ := runSteps_write_ok (n := 0)
    (s := { s with seq := if p = 0xCF#8 then 0#1 else s.seq, crc := c, phase := .write, att := 0, txbuf := f })
    rfl rfl hlist
  obtain ⟨r₂, hr₂, hrun⟩ := runSteps_header_ok hrun rfl rfl hh
  obtain ⟨r₃, hr₃, hrun⟩ := runSteps_body_ok hrun rfl rfl hdl hb hgood
  simp only [hpcb, List.append_assoc] at hrun
  exact ⟨_, r₃, hstart, fun hsink => (hr₃ hsink).trans ((hr₂ hsink).trans (hr₁ hsink)), hrun⟩

end Sys2Proof.Machine
end

section
/-! How an exchange ends (43_transaction.md R142), with the port calls it made: each phase is a run of failed attempts
and the attempt that answers it, so the whole has one of three ends, and from these follow its final state (60_exceptions.md
R177) and the number and order of its calls (43_transaction.md R144). -/

namespace Sys2Proof.Machine

/-! ### The calls of a phase -/

/-- The events of one `retry`: attempts that failed with `es`, then the one answered `a`. -/
def attempts (cfg : Config) (op : PortOp) (es : List TErr) (a : PortAnswer) : List PortEvent :=
  es.map (fun e => eventOf cfg op (.err e)) ++ [eventOf cfg op a]

@[simp] theorem attempts_length (cfg : Config) (op : PortOp) (es : List TErr) (a : PortAnswer) :
    (attempts cfg op es a).length = es.length + 1 := by
  simp [attempts]

@[simp] theorem attempts_getLast? (cfg : Config) (op : PortOp) (es : List TErr) (a : PortAnswer) :
    (attempts cfg op es a).getLast? = some (eventOf cfg op a) := by
  simp [attempts]

theorem op_of_mem_attempts {cfg : Config} {op : PortOp} {es : List TErr} {a : PortAnswer} {e : PortEvent}
    (h : e ∈ attempts cfg op es a) : e.call.op = op := by
  simp only [attempts, List.mem_append, List.mem_map, List.mem_singleton] at h
  obtain ⟨x, -, rfl⟩ | rfl := h <;> rfl

theorem err_of_mem_attempts_err {cfg : Config} {op : PortOp} {es : List TErr} {x : TErr} {e : PortEvent}
    (h : e ∈ attempts cfg op es (.err x)) : ∃ y, e.answer = .err y := by
  simp only [attempts, List.mem_append, List.mem_map, List.mem_singleton] at h
  obtain ⟨y, -, rfl⟩ | rfl := h <;> exact ⟨_, rfl⟩

/-- From `s` to `u` the exchange made the port calls `calls`, and has not yet reported anything. -/
structure CallsMade (s : State) (calls : List PortEvent) (u : State) : Prop where
  cfg : u.cfg = s.cfg
  crc : u.crc = s.crc
  seq : u.seq = s.seq
  txbuf : u.txbuf = s.txbuf
  inbox : u.inbox = s.inbox
  outbox : u.outbox = s.outbox
  events : u.events = s.events ++ calls

theorem callsMade_nil (s : State) : CallsMade s [] s := ⟨rfl, rfl, rfl, rfl, rfl, rfl, by simp⟩

/-- A `retry` with its phase entered adds its attempts; an error takes all `MAXATT` of them (43_transaction.md R132). -/
theorem CallsMade.retry {s u : State} {calls : List PortEvent} (h : CallsMade s calls u) (op : PortOp) (p : Phase) :
    ∃ es, CallsMade s (calls ++ attempts s.cfg op es (retry op (setPhase p u)).1) (retry op (setPhase p u)).2 ∧
      es.length + 1 ≤ s.cfg.maxAtt.n ∧ ∀ e, (retry op (setPhase p u)).1 = .err e → es.length + 1 = s.cfg.maxAtt.n := by
  obtain ⟨es, hev, hle, hmax⟩ := retry_events op (setPhase p u)
  rw [setPhase_cfg, h.cfg] at hev hle hmax
  refine ⟨es, ⟨?_, ?_, ?_, ?_, ?_, ?_, ?_⟩, hle, hmax⟩
  case refine_7 => rw [hev, setPhase_events, h.events, List.append_assoc, List.append_assoc]; rfl
  all_goals simp [h.cfg, h.crc, h.seq, h.txbuf, h.inbox, h.outbox]

/-- The header's handling is no port call. -/
theorem CallsMade.headerHeld {s u : State} {calls : List PortEvent} (h : CallsMade s calls u) (v : Bytes) :
    CallsMade s calls (chainDiagnostic (headerPcb v) (holdHeader v u)) := by
  obtain ⟨hcfg, hcrc, hseq, htx, hin, hout, hev⟩ := h
  constructor <;> simpa

theorem CallsMade.bodyHeld {s u : State} {calls : List PortEvent} (h : CallsMade s calls u) (v : Bytes) :
    CallsMade s calls (holdBody v u) :=
  { h with }

theorem retryLoop_answerTo (op : PortOp) (k : Nat) (s : State) : ∃ a, (retryLoop op k s).1 = answerTo op a := by
  induction k generalizing s with
  | zero => exact ⟨_, rfl⟩
  | succ k ih =>
    rcases h : callPort op s with ⟨v | e, t⟩
    · rw [retryLoop_ok h]
      exact ⟨(takeAnswer s).1, (congrArg Prod.fst h).symm⟩
    · rw [retryLoop_again h]
      exact ih (waitDelay t)

/-- A write succeeds without bytes (20_memory.md R33). -/
theorem retry_write_ok {f v : Bytes} {s : State} (h : (retry (.write f) s).1 = .ok v) : v = [] := by
  obtain ⟨a, ha⟩ := retryLoop_answerTo (.write f) (s.cfg.maxAtt.n - 1) (clearAtt s)
  cases a <;> simp_all [retry]

/-! ### The ends of an exchange -/

/-- `s` holds a built request and `t` is the end of its exchange: a phase used up its attempts, a read was answered with
another count than asked, or header and remainder were received and validated. -/
inductive ExchangeEnd (s : State) : State → Prop
  | exhausted {before : List PortEvent} {op : PortOp} {es : List TErr} {e : TErr} {u : State}
      (calls : CallsMade s (before ++ attempts s.cfg op es (.err e)) u) (used : es.length + 1 = s.cfg.maxAtt.n)
      (bound : before.length ≤ 2 * s.cfg.maxAtt.n)
      (answered : ∀ x, before.getLast? = some x → ∃ v, x.answer = .ok v) : ExchangeEnd s (raise (.transportError e) u)
  | malformed {before : List PortEvent} {n : Nat} {es : List TErr} {v : Bytes} {u : State}
      (calls : CallsMade s (before ++ attempts s.cfg (.read n) es (.ok v)) u)
      (bound : before.length + (es.length + 1) ≤ 3 * s.cfg.maxAtt.n) (count : v.length ≠ n) :
      ExchangeEnd s (raise .malformedResponse u)
  | received {f : Bytes} {es₁ es₂ es₃ : List TErr} {u : State}
      (calls : CallsMade s (attempts s.cfg (.write f) es₁ (.ok []) ++ attempts s.cfg (.read 3) es₂ (.ok u.rxhdr) ++
        attempts s.cfg (.read (headerLen u.rxhdr + 2)) es₃ (.ok u.rxbuf)) u)
      (bound : (es₁.length + 1) + (es₂.length + 1) + (es₃.length + 1) ≤ 3 * s.cfg.maxAtt.n)
      (header : u.rxhdr.length = 3) (body : u.rxbuf.length = headerLen u.rxhdr + 2) :
      ExchangeEnd s (settleExchange u)

theorem exchangeEnd_wholeFromBody {s u : State} {f : Bytes} {es₁ es₂ : List TErr}
    (h : CallsMade s (attempts s.cfg (.write f) es₁ (.ok []) ++ attempts s.cfg (.read 3) es₂ (.ok u.rxhdr)) u)
    (hwrite : es₁.length + 1 ≤ s.cfg.maxAtt.n) (hread : es₂.length + 1 ≤ s.cfg.maxAtt.n) (hhdr : u.rxhdr.length = 3) :
    ExchangeEnd s (wholeFromBody u) := by
  obtain ⟨es₃, hcalls, hle, hmax⟩ := h.retry (.read (headerLen u.rxhdr + FCS_LEN)) .rdbody
  have hkept := retry_rxhdr (.read (headerLen u.rxhdr + FCS_LEN)) (setPhase .rdbody u)
  rcases hr : retry (.read (headerLen u.rxhdr + FCS_LEN)) (setPhase .rdbody u) with ⟨v | e, t⟩
  all_goals rw [hr] at hcalls hmax hkept
  · rw [wholeFromBody_ok hr]
    split_ifs with hcount
    · exact .malformed hcalls (by simp; omega) hcount
    · have hkept : t.rxhdr = u.rxhdr := hkept
      rw [← hkept] at hcalls hcount hhdr
      exact .received (hcalls.bodyHeld v) (by omega) hhdr (not_not.1 hcount)
  · rw [wholeFromBody_err hr]
    exact .exhausted hcalls (hmax e rfl) (by simp; omega) (by simp [eventOf])

theorem exchangeEnd_wholeFromHeader {s u : State} {f : Bytes} {es₁ : List TErr}
    (h : CallsMade s (attempts s.cfg (.write f) es₁ (.ok [])) u) (hwrite : es₁.length + 1 ≤ s.cfg.maxAtt.n) :
    ExchangeEnd s (wholeFromHeader u) := by
  obtain ⟨es₂, hcalls, hle, hmax⟩ := h.retry (.read HDR_LEN) .rdhdr
  rcases hr : retry (.read HDR_LEN) (setPhase .rdhdr u) with ⟨v | e, t⟩
  all_goals rw [hr] at hcalls hmax
  · rw [wholeFromHeader_ok hr]
    split_ifs with hcount
    · exact .malformed hcalls (by simp; omega) hcount
    · have hheld := hcalls.headerHeld v
      exact exchangeEnd_wholeFromBody (by simpa [HDR_LEN] using hheld) hwrite hle (by simpa [HDR_LEN] using hcount)
  · rw [wholeFromHeader_err hr]
    exact .exhausted hcalls (hmax e rfl) (by simp; omega) (by simp [eventOf])

theorem exchangeEnd_wholeFromWrite (s : State) : ExchangeEnd s (wholeFromWrite s) := by
  obtain ⟨es₁, hcalls, hle, hmax⟩ := (callsMade_nil s).retry (.write s.txbuf) .write
  have hempty := fun v => retry_write_ok (f := s.txbuf) (v := v) (s := setPhase .write s)
  rcases hr : retry (.write s.txbuf) (setPhase .write s) with ⟨v | e, t⟩
  all_goals rw [hr] at hcalls hmax hempty
  · obtain rfl := hempty v rfl
    rw [wholeFromWrite_ok hr]
    exact exchangeEnd_wholeFromHeader hcalls hle
  · rw [wholeFromWrite_err hr]
    exact .exhausted hcalls (hmax e rfl) (Nat.zero_le _) nofun

/-! ### The final state -/

/-- The end with `OK`, from `s`, which holds the request. -/
def endedOk (s t : State) : Prop :=
  t.err = 0#8 ∧ t.einfo = 0#16 ∧ t.crc = RESIDUE ∧ validate t.rxhdr t.rxbuf = RESIDUE ∧
  t.seq = (bif s.cfg.iblock.has (requestPcb s) then s.seq ^^^ 1#1 else s.seq) ∧ responseReceived s t ∧
  t.outbox = s.outbox ++ [0#8 :: BitVec.ofNat 8 (headerLen t.rxhdr) :: 0#8 :: t.rxbuf.take (headerLen t.rxhdr)]

/-- The end with `TransportError`. -/
def endedTransportError (s t : State) : Prop :=
  t.err = 1#8 ∧ t.einfo = 0#16 ∧ t.crc = s.crc ∧ t.seq = s.seq ∧
  ∃ (e : TErr) (op : PortOp), t.events.getLast? = some (eventOf s.cfg op (.err e)) ∧
    t.outbox = s.outbox ++ [1#8 :: BitVec.ofNat 8 (e.report.length % 256)
      :: BitVec.ofNat 8 (e.report.length / 256) :: e.report]

/-- The end with `CRCError`. -/
def endedCrcError (s t : State) : Prop :=
  t.err = 3#8 ∧ t.crc = validate t.rxhdr t.rxbuf ∧ t.crc ≠ RESIDUE ∧ t.seq = s.seq ∧ responseReceived s t ∧
  t.einfo = BitVec.ofNat 16 ((t.rxbuf.getD (headerLen t.rxhdr) 0#8).toNat
    + 256 * (t.rxbuf.getD (headerLen t.rxhdr + 1) 0#8).toNat) ∧
  t.outbox = s.outbox ++ [[3#8, 2#8, 0#8, t.rxbuf.getD (headerLen t.rxhdr) 0#8,
    t.rxbuf.getD (headerLen t.rxhdr + 1) 0#8]]

/-- The end with `MalformedResponse`. -/
def endedMalformed (s t : State) : Prop :=
  t.err = 4#8 ∧ t.einfo = 0#16 ∧ t.crc = s.crc ∧ t.seq = s.seq ∧
  (∃ n v, t.events.getLast? = some (eventOf s.cfg (.read n) (.ok v)) ∧ v.length ≠ n) ∧
  t.outbox = s.outbox ++ [[4#8, 0#8, 0#8]]

theorem CallsMade.getLast? {s u : State} {before : List PortEvent} {op : PortOp} {es : List TErr} {a : PortAnswer}
    (h : CallsMade s (before ++ attempts s.cfg op es a) u) : u.events.getLast? = some (eventOf s.cfg op a) := by
  simp [h.events, List.getLast?_append]

theorem endedTransportError_raise {s u : State} {before : List PortEvent} {op : PortOp} {es : List TErr} {e : TErr}
    (h : CallsMade s (before ++ attempts s.cfg op es (.err e)) u) :
    endedTransportError s (raise (.transportError e) u) := by
  rw [raise_transportError]
  exact ⟨rfl, rfl, h.crc, h.seq, e, op, h.getLast?, by rw [h.outbox]⟩

theorem endedMalformed_raise {s u : State} {before : List PortEvent} {n : Nat} {es : List TErr} {v : Bytes}
    (h : CallsMade s (before ++ attempts s.cfg (.read n) es (.ok v)) u) (hv : v.length ≠ n) :
    endedMalformed s (raise .malformedResponse u) := by
  rw [raise_malformedResponse]
  exact ⟨rfl, rfl, h.crc, h.seq, ⟨n, v, h.getLast?, hv⟩, by rw [h.outbox]⟩

/-- The header answered the second phase, the remainder the third. -/
theorem responseReceived_of_calls {s u : State} {f : Bytes} {es₁ es₂ es₃ : List TErr}
    (h : CallsMade s (attempts s.cfg (.write f) es₁ (.ok []) ++ attempts s.cfg (.read 3) es₂ (.ok u.rxhdr) ++
      attempts s.cfg (.read (headerLen u.rxhdr + 2)) es₃ (.ok u.rxbuf)) u)
    (hhdr : u.rxhdr.length = 3) (hbody : u.rxbuf.length = headerLen u.rxhdr + 2) : responseReceived s u := by
  refine ⟨hhdr, hbody, attempts s.cfg (.write f) es₁ (.ok []) ++ es₂.map (fun e => eventOf s.cfg (.read 3) (.err e)),
    es₃.map (fun e => eventOf s.cfg (.read (headerLen u.rxhdr + 2)) (.err e)), ?_, fun e he => ?_⟩
  · rw [h.events]
    simp [attempts, headerLen]
  · obtain ⟨x, -, rfl⟩ := List.mem_map.1 he
    exact ⟨x, rfl⟩

theorem endedOk_or_endedCrcError {s u : State} (hcfg : u.cfg = s.cfg) (hseq : u.seq = s.seq) (htx : u.txbuf = s.txbuf)
    (hout : u.outbox = s.outbox) (h : responseReceived s u) :
    endedOk s (settleExchange u) ∨ endedCrcError s (settleExchange u) := by
  have ⟨_, hbody, _⟩ := h
  by_cases hv : validate u.rxhdr u.rxbuf = RESIDUE
  · rw [settleExchange_good_eq hbody hv]
    exact .inl ⟨rfl, rfl, rfl, hv, by simp only [requestPcb, hcfg, hseq, htx], h, by rw [hout]⟩
  · rw [settleExchange_bad_eq hv]
    exact .inr ⟨rfl, rfl, hv, hseq, h, rfl, by rw [hout]⟩

/-- An exchange that starts ends in one of four ways. -/
theorem ExchangeEnd.outcome {s t : State} (h : ExchangeEnd s t) :
    endedOk s t ∨ endedTransportError s t ∨ endedCrcError s t ∨ endedMalformed s t := by
  cases h with
  | exhausted calls => exact .inr (.inl (endedTransportError_raise calls))
  | malformed calls _ count => exact .inr (.inr (.inr (endedMalformed_raise calls count)))
  | received calls _ header body =>
    have hresp := responseReceived_of_calls calls header body
    obtain hok | hcrc := endedOk_or_endedCrcError calls.cfg calls.seq calls.txbuf calls.outbox hresp
    · exact .inl hok
    · exact .inr (.inr (.inl hcrc))

/-- However it ends, the block is ready for the next command (60_exceptions.md R176). -/
theorem ExchangeEnd.ready {s t : State} (h : ExchangeEnd s t) :
    t.phase = .idle ∧ t.cfg = s.cfg ∧ t.inbox = s.inbox ∧ t.err ≠ 2#8 := by
  cases h with
  | exhausted calls => exact ⟨rfl, calls.cfg, calls.inbox, by simp [failureCode]⟩
  | malformed calls => exact ⟨rfl, calls.cfg, calls.inbox, by simp [failureCode]⟩
  | received calls =>
    obtain ⟨hidle, herr, -⟩ := settleExchange_ends _
    refine ⟨hidle, by simp [calls.cfg], by simp [calls.inbox], fun h2 => ?_⟩
    rw [h2] at herr
    exact absurd herr (by decide)

/-- `ExchangeEnd` from the state that steps 1 and 2 leave. -/
theorem exchangeEnd_xchgWhole {p : Byte} {d : Bytes} (s : State) (hd : d.length ≤ 253) :
    ExchangeEnd (requestBuilt p d { s with seq := if p = PCB_RESET then 0#1 else s.seq }) (xchgWhole p d s) := by
  rw [xchgWhole_fits hd, seqOnRequest_eq]
  exact exchangeEnd_wholeFromWrite _

theorem xchgWhole_tooLong_eq {p : Byte} {d : Bytes} {s : State} (hd : 254 ≤ d.length) :
    xchgWhole p d s = { s with
      seq := if p = PCB_RESET then 0#1 else s.seq, err := 2#8, einfo := 0#16, phase := .idle
      outbox := s.outbox ++ [[2#8, 0#8, 0#8]] } := by
  rw [xchgWhole_tooLong hd, raise_frameTooLong, seqOnRequest_eq]

/-- Settles O25: an over-long payload ends at once, every other exchange in one of the four ways. -/
theorem exchangeFinalState : Obligations.ExchangeFinalState := by
  rintro p d s t _ _ _ rfl rfl rfl rfl
  obtain hd | hd : 254 ≤ d.length ∨ d.length ≤ 253 := by omega
  · rw [xchgWhole_tooLong_eq hd]
    exact ⟨rfl, rfl, rfl, iff_of_true rfl hd, .inr (.inr (.inl ⟨rfl, rfl, rfl, rfl, rfl, rfl⟩))⟩
  · have hend := exchangeEnd_xchgWhole (p := p) s hd
    obtain ⟨hidle, hcfg, hinbox, herr⟩ := hend.ready
    refine ⟨hidle, hcfg, hinbox, iff_of_false herr (by omega), ?_⟩
    obtain h | h | h | h := hend.outcome
    · exact .inl h
    · exact .inr (.inl h)
    · exact .inr (.inr (.inr (.inl h)))
    · exact .inr (.inr (.inr (.inr h)))

/-! ### The port calls -/

/-- Whether the port answered the call `ok`. -/
def answeredOk (e : PortEvent) : Bool :=
  match e.answer with
  | .ok _ => true
  | .err _ => false

theorem filter_answeredOk_attempts (cfg : Config) (op : PortOp) (es : List TErr) (v : Bytes) :
    (attempts cfg op es (.ok v)).filter answeredOk = [eventOf cfg op (.ok v)] := by
  simp [attempts, List.filter_map, answeredOk, eventOf, Function.comp_def]

/-- The calls `new` of an exchange that left `err` in `ERR` (43_transaction.md R144). -/
def callsByOutcome (cfg : Config) (err : Byte) (new : List PortEvent) : Prop :=
  new.length ≤ 3 * cfg.maxAtt.n ∧ (err = 2#8 → new = []) ∧
  (err = 0#8 → 3 ≤ new.length ∧ ∃ f h b : Bytes, h.length = 3 ∧ new.filter answeredOk =
    [eventOf cfg (.write f) (.ok []), eventOf cfg (.read 3) (.ok h), eventOf cfg (.read (headerLen h + 2)) (.ok b)]) ∧
  (err = 1#8 → ∃ before last : List PortEvent, new = before ++ last ∧ last.length = cfg.maxAtt.n ∧
    (∀ e ∈ last, ∃ x, e.answer = .err x) ∧ (∀ e, before.getLast? = some e → ∃ v, e.answer = .ok v) ∧
    ∃ op, ∀ e ∈ last, e.call.op = op)

theorem ExchangeEnd.calls {s t : State} (h : ExchangeEnd s t) :
    ∃ new, t.events = s.events ++ new ∧ callsByOutcome s.cfg t.err new := by
  obtain ⟨-, -, -, herr⟩ := h.ready
  cases h with
  | exhausted calls used bound answered =>
    refine ⟨_, calls.events, by simp; omega, fun h2 => absurd h2 herr, by simp [failureCode], fun _ =>
      ⟨_, _, rfl, by simpa using used, fun e => err_of_mem_attempts_err, answered, _, fun e => op_of_mem_attempts⟩⟩
  | malformed calls bound =>
    exact ⟨_, calls.events, by simp; omega, fun h2 => absurd h2 herr, by simp [failureCode], by simp [failureCode]⟩
  | @received f es₁ es₂ es₃ u calls bound header body =>
    obtain ⟨-, herr', hevents, -⟩ := settleExchange_ends u
    refine ⟨_, hevents.trans calls.events, by simp; omega, fun h2 => absurd h2 herr,
      fun _ => ⟨by simp; omega, f, u.rxhdr, u.rxbuf, header, ?_⟩, fun h1 => ?_⟩
    · simp [List.filter_append, filter_answeredOk_attempts]
    · rw [h1] at herr'
      exact absurd herr' (by decide)

/-- Settles O26: the steps reach the end, and an exchange that starts has the calls of its end. -/
theorem exchangeBoundsPortCalls : Obligations.ExchangeBoundsPortCalls := by
  rintro p d s t rfl
  obtain ⟨u, n, hexec, -, hrun⟩ := exchangeStepsReachWhole p d s
  refine ⟨⟨u, n, hexec, hrun⟩, ?_⟩
  obtain hd | hd : 254 ≤ d.length ∨ d.length ≤ 253 := by omega
  · rw [xchgWhole_tooLong_eq hd]
    exact ⟨[], by simp, Nat.zero_le _, fun _ => rfl, nofun, nofun⟩
  · exact (exchangeEnd_xchgWhole s hd).calls

end Sys2Proof.Machine
end

section
/-! The system operations (44_system.md R160 to R162): `NOP`, the register read and the start of a session. -/

namespace Sys2Proof.Machine

/-! ### A register as two bytes -/

/-- A register of at most one byte, zero-extended, is its value and a zero byte. -/
theorem le16_zeroExtend {w : Nat} (hw : w ≤ 8) (v : BitVec w) :
    le16 (v.zeroExtend 16) = [BitVec.ofNat 8 v.toNat, 0#8] := by
  have hv : v.toNat < 256 := v.isLt.trans_le (Nat.pow_le_pow_right (by decide) hw)
  have hx : (v.zeroExtend 16).toNat = v.toNat := BitVec.toNat_setWidth_of_le (by omega)
  rw [le16_eq_lowByte_highByte, lowByte, highByte, hx, Nat.mod_eq_of_lt hv, Nat.div_eq_of_lt hv]

/-- The response of a legal register read; `ERR` and `EINFO` stay (10_state.md R13). -/
theorem exec_rdreg_known {r a b : Byte} {s : State} {v : Half} (hr : readReg s r = some v) (hv : le16 v = [a, b]) :
    exec (.rdreg r) s = .next { s with outbox := s.outbox ++ [[0#8, 2#8, 0#8, a, b]] } := by
  rw [← responseMessage_two_bytes, ← hv]
  exact execRdreg_known hr

/-! ### The commands -/

/-- Settles O4: an `OK` response without a result, and nothing before it. -/
theorem nopClearsStatus : Obligations.NopClearsStatus := ⟨decodeOfEncode .nop rfl rfl, fun _ => rfl⟩

/-- Settles O5: the two bytes of each register, and no register above 3. -/
theorem rdregReadsRegisters : Obligations.RdregReadsRegisters := by
  refine ⟨fun r hr => decode_eq_rdreg.2 ⟨hr, rfl⟩, fun s => ⟨?_, ?_, ?_, ?_, fun r hr => ?_⟩⟩
  · exact exec_rdreg_known (readReg_crc s) (le16_eq_lowByte_highByte s.crc)
  · exact exec_rdreg_known (readReg_seq s) (le16_zeroExtend (by decide) s.seq)
  · exact exec_rdreg_known (readReg_err s) (by rw [le16_zeroExtend le_rfl, BitVec.ofNat_toNat, BitVec.setWidth_eq])
  · exact exec_rdreg_known (readReg_einfo s) (le16_eq_lowByte_highByte s.einfo)
  · exact execRdreg_unknown (readReg_none hr)

/-- Settles O6: `CRC` takes the next free value, and the `OK` response follows the effect of reset. -/
theorem sresetStartsSession : Obligations.SresetStartsSession :=
  ⟨decodeOfEncode .sreset rfl rfl, fun s => ⟨Config.resetCrc s.draws, rfl⟩⟩

end Sys2Proof.Machine
end

section
/-! The diagnostic sink is inert (60_exceptions.md R190). Taking the sink away from a state, with any records in its
place, commutes with every operation: what the block does is what it does unwatched, and unwatched it records nothing. -/

namespace Sys2Proof.Machine

/-- The state without a sink, what a sink has received put at `r`. -/
def unwatched (r : List DiagRecord) (s : State) : State := { s with cfg := { s.cfg with sink := false }, diag := r }

theorem eq_of_unwatched_eq {r : List DiagRecord} {s s' : State} (h : unwatched r s' = unwatched r s) :
    s' = { s with cfg := { s.cfg with sink := s'.cfg.sink }, diag := s'.diag } :=
  congrArg (fun u : State => { u with cfg := { u.cfg with sink := s'.cfg.sink }, diag := s'.diag }) h

/-! ### The operations that look at the configuration or the port -/

theorem unwatched_seqOnRequest (r : List DiagRecord) (p : Byte) (s : State) :
    unwatched r (seqOnRequest p s) = seqOnRequest p (unwatched r s) := by
  rw [seqOnRequest_eq, seqOnRequest_eq]; rfl

theorem unwatched_seqOnSuccess (r : List DiagRecord) (p : Byte) (s : State) :
    unwatched r (seqOnSuccess p s) = seqOnSuccess p (unwatched r s) := by
  rw [seqOnSuccess_eq, seqOnSuccess_eq]; rfl

/-- A record is all that a diagnostic leaves behind. -/
theorem unwatched_diagnose (r : List DiagRecord) (d : DiagRecord) (s : State) :
    unwatched r (diagnose d s) = unwatched r s := by
  unfold diagnose
  cases s.cfg.sink <;> rfl

theorem unwatched_chainDiagnostic (r : List DiagRecord) (p : Byte) (s : State) :
    unwatched r (chainDiagnostic p s) = chainDiagnostic p (unwatched r s) := by
  rw [chainDiagnostic_eq, chainDiagnostic_eq]
  exact congrArg (unwatched · s) (List.append_nil r).symm

theorem takeAnswer_unwatched (r : List DiagRecord) (s : State) :
    takeAnswer (unwatched r s) = ((takeAnswer s).1, unwatched r (takeAnswer s).2) := by
  cases ha : s.answers with
  | nil => rw [takeAnswer_drawn ha]; exact takeAnswer_drawn ha
  | cons a rest => rw [takeAnswer_listed ha]; exact takeAnswer_listed ha

/-- The port answers the same, watched or not. -/
theorem callPort_unwatched (r : List DiagRecord) (op : PortOp) (s : State) :
    callPort op (unwatched r s) = ((callPort op s).1, unwatched r (callPort op s).2) := by
  rw [callPort_of_takeAnswer (takeAnswer_unwatched r s), callPort_of_takeAnswer (op := op) (s := s) rfl,
    unwatched_diagnose]
  rfl

/-! ### The commands -/

/-- A command does unwatched what it does watched. -/
theorem exec_unwatched (r : List DiagRecord) {i : Instr} {s t : State} (he : exec i s = .next t) :
    exec i (unwatched r s) = .next (unwatched r t) := by
  cases i with
  | rdreg n =>
    obtain ⟨v, hv, hr⟩ | ⟨hv, hr⟩ := execRdreg_cases n s <;> cases hr.symm.trans he
    · exact execRdreg_known (s := unwatched r s) hv
    · exact execRdreg_unknown (s := unwatched r s) hv
  | frmEnc p d =>
    obtain ⟨hd, hr⟩ | ⟨hd, hr⟩ := execFrmEnc_cases p d s <;> cases hr.symm.trans he
    · exact execFrmEnc_tooLong hd
    · exact execFrmEnc_fits hd
  | frmVal d =>
    simp only [exec, execFrmVal] at he ⊢
    split_ifs at he ⊢ <;> cases he <;> rfl
  | seqPcb m =>
    simp only [exec, execSeqPcb] at he ⊢
    split_ifs at he ⊢ <;> cases he <;> rfl
  | xchg p d =>
    obtain ⟨hd, hr⟩ | ⟨hd, hr⟩ := execXchg_cases p d s <;> cases hr.symm.trans he
    · refine (execXchg_tooLong hd).trans ?_
      rw [← unwatched_seqOnRequest]; rfl
    · refine (execXchg_fits hd).trans ?_
      rw [← unwatched_seqOnRequest]; rfl
  | pcbIblock p => cases he; exact congrArg _ (unwatched_seqOnSuccess r p s).symm
  | pcbReset => cases he; exact congrArg _ (unwatched_seqOnRequest r PCB_RESET s).symm
  | pcbChain p => cases he; exact congrArg _ (unwatched_chainDiagnostic r p s).symm
  | _ => cases he; rfl

/-! ### The exchange -/

theorem portStep_unwatched {r : List DiagRecord} {op : PortOp} {onOk : Bytes → State → State} (s : State)
    (hok : ∀ v t, onOk v (unwatched r t) = unwatched r (onOk v t)) :
    portStep op onOk (unwatched r s) = unwatched r (portStep op onOk s) := by
  have hcall := callPort_unwatched r op s
  obtain ⟨v, t, hc, hs⟩ | ⟨e, t, hc, hlt, hs⟩ | ⟨e, t, hc, hge, hs⟩ := portStep_cases op onOk s
  all_goals rw [hc] at hcall; rw [hs]
  · rw [portStep_ok hcall, hok]
  · exact portStep_again hcall hlt
  · exact portStep_last hcall (not_lt.1 hge)

theorem settleExchange_unwatched (r : List DiagRecord) (s : State) :
    settleExchange (unwatched r s) = unwatched r (settleExchange s) := by
  by_cases h : validate s.rxhdr s.rxbuf = RESIDUE
  · rw [settleExchange_good h, settleExchange_good (s := unwatched r s) h]
    exact congrArg (fun u => complete _ (setPhase .idle u)) (unwatched_seqOnSuccess r _ (setCrc RESIDUE s)).symm
  · rw [settleExchange_bad h, settleExchange_bad (s := unwatched r s) h]
    rfl

theorem headerRead_unwatched (r : List DiagRecord) (v : Bytes) (s : State) :
    headerRead v (unwatched r s) = unwatched r (headerRead v s) := by
  by_cases h : v.length = 3
  · rw [headerRead_read h, headerRead_read h]
    exact congrArg (enterPhase .rdbody) (unwatched_chainDiagnostic r _ (holdHeader v s)).symm
  · rw [headerRead_malformed h, headerRead_malformed h]
    rfl

theorem bodyRead_unwatched (r : List DiagRecord) (v : Bytes) (s : State) :
    bodyRead v (unwatched r s) = unwatched r (bodyRead v s) := by
  by_cases h : v.length = headerLen s.rxhdr + 2
  · rw [bodyRead_read h, bodyRead_read (s := unwatched r s) h]
    exact settleExchange_unwatched r (holdBody v s)
  · rw [bodyRead_malformed h, bodyRead_malformed (s := unwatched r s) h]
    rfl

theorem exchangeStep_unwatched (r : List DiagRecord) (s : State) :
    exchangeStep (unwatched r s) = unwatched r (exchangeStep s) := by
  have hphase : (unwatched r s).phase = s.phase := rfl
  unfold exchangeStep
  rw [hphase]
  split
  · rfl
  · exact portStep_unwatched s fun _ _ => rfl
  · exact portStep_unwatched s (headerRead_unwatched r)
  · exact portStep_unwatched s (bodyRead_unwatched r)

/-! ### The step -/

/-- A step does unwatched what it does watched, and leaves the records where they were put. -/
theorem step_unwatched (r : List DiagRecord) {s t : State} (hs : step s = .next t) :
    step (unwatched r s) = .next (unwatched r t) := by
  obtain ⟨hp, hi, rfl⟩ | ⟨hp, m, rest, i, hi, hd, he⟩ | ⟨hp, m, rest, e, hi, hd, rfl⟩ | ⟨hp, rfl⟩ := step_cases hs
  · exact step_nothing (s := unwatched r t) hp hi
  · exact (step_command (s := unwatched r s) hp hi hd).trans (exec_unwatched r he)
  · exact step_illegal (s := unwatched r s) hp hi hd
  · rw [step_exchange (s := unwatched r s) hp, exchangeStep_unwatched]

theorem step_congr_unwatched {r : List DiagRecord} {s s' t t' : State} (h : unwatched r s' = unwatched r s)
    (hs : step s = .next t) (hs' : step s' = .next t') : unwatched r t' = unwatched r t := by
  have hu := step_unwatched r hs'
  rw [h, step_unwatched r hs] at hu
  exact (Host.Outcome.next.inj hu).symm

/-- Settles O42: the two states agree unwatched; without a sink the second is its own unwatched state, at `records`. -/
theorem sinkIsInert : Obligations.SinkIsInert := by
  intro s s' t t' b records heq hs hs'
  have hsame : unwatched records s' = unwatched records s := by rw [heq]; rfl
  have hsink : t'.cfg.sink = b := by rw [configurationNeverChanges.2 _ _ hs', heq]
  refine ⟨hsink ▸ eq_of_unwatched_eq (step_congr_unwatched hsame hs hs'), fun hb => ?_⟩
  have hunwatched : s' = unwatched records s := by rw [heq, hb]; rfl
  rw [hunwatched, step_unwatched records hs] at hs'
  exact congrArg State.diag (Host.Outcome.next.inj hs').symm

end Sys2Proof.Machine
end

section
/-! The invariant right after reset (10_state.md R20, R22), where the induction over the steps starts. -/

namespace Sys2Proof.Machine

/-- Settles O2: at reset no status is raised, no attempt made and nothing held or recorded, and what the invariant asks
of a running exchange asks nothing of `IDLE`. -/
theorem resetMeetsInvariant : Obligations.ResetMeetsInvariant where
  errCode := (by decide : 0#8 ≤ 5#8)
  infoOnlyCrc _ := rfl
  attBound := Nat.zero_le _
  attLeft hp := absurd rfl hp
  txFrame := .inl rfl
  txRunning hp := absurd rfl hp
  rxHeader := .inl rfl
  rxHeaderRead := nofun
  rxBody := Nat.zero_le _
  eventsLegal := nofun
  responsesLegal := nofun

end Sys2Proof.Machine
end
